-- ==== Sys2Proof/Word.lean ====
section
/-! DEFINITION. The two word types of the machine (R8): bytes of registers and memory, and 16-bit
addresses and register pairs. All arithmetic on them is unsigned and wraps (R8, R34, R35, R256). -/

namespace Sys2Proof

/-- R8 `u8`: an 8-bit register or a byte of memory. -/
abbrev Byte := BitVec 8

/-- R8 `u16`: an address, a register pair, SP or PC. -/
abbrev Word := BitVec 16

end Sys2Proof
end

