-- ==== Sys2Proof/Machine/Bits.lean ====
section
/-! DEFINITION. Byte-order, sign-extension and bit-field helpers in the notation of R8 and R9. -/

namespace Sys2Proof

/-- R9 `hi ++ lo` for bytes: `hi * 256 + lo` (R107: little-endian, `lo` is the byte at the lower address). -/
def joinBytes (hi lo : Byte) : Word := hi ++ lo

/-- R9 `v[15:8]`. -/
def highByte (v : Word) : Byte := v.extractLsb' 8 8

/-- R9 `v[7:0]`. -/
def lowByte (v : Word) : Byte := v.extractLsb' 0 8

/-- R8 `sext_16`: an 8-bit value read as two's complement, modulo 2^16. -/
def sext16 (v : Byte) : Word := v.signExtend 16

/-- R8 `zext_16`. -/
def zext16 (v : Byte) : Word := v.zeroExtend 16

/-- `v & ~(1 << b) & 0xFF` (R304). -/
def clearBit (v : Byte) (b : Fin 8) : Byte := v &&& ~~~(1#8 <<< b.val)

/-- `v | (1 << b)` (R306). -/
def setBit (v : Byte) (b : Fin 8) : Byte := v ||| (1#8 <<< b.val)

/-- R9 `v[b]`. -/
def testBit (v : Byte) (b : Fin 8) : Bool := v.getLsbD b.val

end Sys2Proof
end

