-- ==== Sys2Proof/Config.lean ====
section
/-! DEFINITION. What is fixed for the machine: the parameters of R7 at the value the spec takes, and
the free values, which have no body: the cartridge that R112 leaves as the parameter `CART`. -/

namespace Sys2Proof

/-- R7 `STOP_POLICY`: what opcode 0x10 does (R353, D8). -/
inductive StopPolicy where
  /-- a two-byte no-operation; the value the spec takes -/
  | nop2
  /-- the alternative: raise `UnimplementedOpcode` -/
  | fault
  deriving DecidableEq, Repr

/-- Which bank controller a header byte selects when an image is loaded (R112, R113, R374). -/
inductive Controller where
  | nonBanked
  | banked
  | unrecognised
  deriving DecidableEq, Repr, Inhabited

namespace Config

/-- R7 `T_PER_M`, R15: clock ticks per M-cycle. -/
def tPerM : Nat := 4

/-- R7 `DIV_PERIOD`: T-cycles per divider increment (D19). -/
def divPeriod : Nat := 256

/-- R7 `TIMA_PERIOD[0..3]`: T-cycles per counter increment, by TAC[1:0] (R47, D19). -/
def timaPeriod (select : BitVec 2) : Nat :=
  if select = 0 then 1024 else if select = 1 then 16 else if select = 2 then 64 else 256

/-- R7 `IRQ_COST`: M-cycles of an interrupt dispatch (R387, D6). -/
def irqCost : Nat := 5

/-- R7 `HALT_COST`: M-cycles of a halted idle step (R395, D6). -/
def haltCost : Nat := 1

/-- R7 `STOP_POLICY` at the value the spec takes (D8). -/
def stopPolicy : StopPolicy := .nop2

/-- R7 `DIV0`: the divider at reset (R64). -/
def div0 : Byte := 0xAB

/-- The answer of an arbitrary `CART.read` (R112): what the cartridge, after the writes it has
accepted (newest first), gives for an address, or `none` where it declines the address (R101).
A FREE VALUE: no body, so a claim holds for every cartridge (log entry 5). -/
opaque cartRead : List (Word × Byte) → Word → Option Byte

/-- Whether an arbitrary `CART.write` accepts the write or declines the address (R101, R112).
A FREE VALUE (log entry 5). -/
opaque cartAccepts : List (Word × Byte) → Word → Byte → Bool

/-- The controller that a non-zero header byte at 0x147 selects: the spec fixes only 0x00 (R113) and
leaves the others to `CART` (R374, N19). A FREE VALUE (log entry 6). -/
opaque controllerOf : Byte → Controller

end Config

end Sys2Proof
end

