-- ==== Sys2Proof/Machine/State.lean ====
section
/-! DEFINITION. The state of the machine as plain data: everything 10_state names (R30 to R61), the parameters
`CART`, `INPUT` and `IE_HIGH_READ` of R7, the fatal state (R41, R370), and the state right after reset
(R62 to R66, R471). -/

namespace Sys2Proof.Machine

/-- A sparse byte store: cells in strictly rising order of address, none holding the byte an unlisted address
reads as (Machine/Memory.lean). -/
abbrev Memory := List Host.Cell

/-- R30, R34, R35: the CPU register file. F holds Z, N, H, C in bits 7 to 4 and zero in bits 3 to 0 (R32). -/
structure Regs where
  a : Byte
  f : Byte
  b : Byte
  c : Byte
  d : Byte
  e : Byte
  h : Byte
  l : Byte
  sp : Word
  pc : Word
  deriving DecidableEq, Repr

/-- R37: the interrupt controller. Bit i of `ie` and of `iflag` belongs to source i (R380). -/
structure Interrupts where
  /-- IE, the enable mask (R61) -/
  ie : BitVec 5
  /-- IF, the request mask (R48) -/
  iflag : BitVec 5
  /-- IME, the master enable -/
  ime : Bool
  halted : Bool
  /-- the delay counters: 0 means no change is pending (R384) -/
  eiDelay : Fin 3
  diDelay : Fin 3
  deriving DecidableEq, Repr

/-- R38: the timer. -/
structure Timer where
  /-- DIV (R44) -/
  div : Byte
  /-- the divider's T-cycle accumulator -/
  divAcc : Nat
  /-- TIMA (R45) -/
  tima : Byte
  /-- TMA (R46) -/
  tma : Byte
  /-- TAC (R47): bit 2 enable, bits 1:0 clock select -/
  tac : BitVec 3
  /-- the counter's T-cycle accumulator -/
  timaAcc : Nat
  deriving DecidableEq, Repr

/-- R39, R411: the display modes 0 to 3. -/
inductive Mode where
  | hblank
  | vblank
  | spriteScan
  | pixelTransfer
  deriving DecidableEq, Repr

/-- R425: a shade or a colour index, 0 to 3. -/
abbrev Shade := BitVec 2

/-- R39: the display controller. -/
structure Display where
  mode : Mode
  modeClock : Nat
  ly : Byte
  lcdc : Byte
  /-- STAT_EN, the four writable STAT bits 6:3 (R50) -/
  statEn : BitVec 4
  scy : Byte
  scx : Byte
  lyc : Byte
  bgp : Byte
  obp0 : Byte
  obp1 : Byte
  wy : Byte
  wx : Byte
  /-- FB, 144 rows of 160 shades (R426) -/
  fb : List (List Shade)
  deriving DecidableEq, Repr

/-- R112, R113: the cartridge with its own state. The three variants of R113, and any other cartridge, known only by
the addresses it always declines (R101) and the writes it has accepted (all else of it is the free values
`Config.cartRead` and `Config.cartAccepts`, log 5). -/
inductive Cart where
  /-- R113.1: all reads 0xFF, writes ignored -/
  | none
  /-- R113.2: a 32 KiB image used verbatim, writes ignored -/
  | nonBanked (image : Memory)
  /-- R113.3: an image behind a 5-bit bank register -/
  | banked (image : Memory) (bank : BitVec 5)
  /-- any other `CART`: the addresses it declines whatever it has accepted, and the accepted writes, newest first -/
  | other (declined : List Word) (writes : List (Word × Byte))
  deriving DecidableEq, Repr

/-- R105: the host's input vector; true means pressed. -/
structure Buttons where
  right : Bool
  left : Bool
  up : Bool
  down : Bool
  a : Bool
  b : Bool
  select : Bool
  start : Bool
  deriving DecidableEq, Repr

/-- R370: the direction of an access that a cartridge declined. -/
inductive Direction where
  | read
  | write
  deriving DecidableEq, Repr

/-- R370: the fatal error kinds with the information each reports. -/
inductive Fatal where
  /-- R372, R101: only a cartridge that declines an address -/
  | unmappedAccess (address : Word) (direction : Direction)
  /-- R373: an opcode with no dispatch entry -/
  | unimplementedOpcode (opcode : Byte) (prefixed : Bool) (address : Word)
  /-- R374: found when the image is loaded, before any step -/
  | unsupportedCartridge (header : Byte)
  deriving DecidableEq, Repr

/-- R41: the machine is either running or in the fatal state. -/
inductive RunState where
  | running
  | fatal (info : Fatal)
  deriving DecidableEq, Repr

/-- The whole state. -/
structure State where
  regs : Regs
  ints : Interrupts
  timer : Timer
  lcd : Display
  /-- VRAM, WRAM, OAM, HRAM and the plain I/O bytes (R40), each at its bus address; the echo is folded on WRAM -/
  mem : Memory
  /-- DMA_REG (R55) -/
  dmaReg : Byte
  /-- JOYP_SEL (R105) -/
  joypSel : BitVec 2
  /-- CART (R112) -/
  cart : Cart
  /-- INPUT as last sampled (R105) -/
  input : Buttons
  /-- INPUT to come: a step takes one value before its fetch or dispatch and one before it executes (log 4). The
  model's own field. -/
  inputQueue : List Buttons
  /-- IE_HIGH_READ (R61), never written -/
  ieHigh : BitVec 3
  run : RunState
  /-- the M-cycles the last CPU step returned (R392). The model's own field. -/
  cost : Nat
  deriving DecidableEq, Repr

/-- Why a step takes no further step. -/
inductive Fault where
  /-- Raised by `step` alone, when the machine is in the fatal state: R41 "takes no further step". Safe: nothing is
  claimed of the machine after it. -/
  | fatalState (info : Fatal)
  deriving DecidableEq, Repr

/-- An instruction without a meaning. -/
inductive Refusal where
  /-- Raised by an arm of `exec` that has no meaning. Safe. No arm of this model raises it. -/
  | notModelled (mnemonic : String)
  deriving DecidableEq, Repr

/-- No button pressed. -/
def Buttons.released : Buttons := ⟨false, false, false, false, false, false, false, false⟩

/-- FB with every byte 0 (R65, R416): 144 rows of 160. -/
def blankFrame : List (List Shade) := List.replicate 144 (List.replicate 160 0)

/-- The state right after reset: R62 (CPU), R63 (interrupts), R64 (timer), R65 (display), R66 (memory). The launch
inputs that the spec leaves open stand at the values of logs 1 to 4: `INIT_MEM` all zero, no cartridge,
`IE_HIGH_READ` 0, nothing pressed. -/
def State.reset : State where
  regs :=
    { a := 0x01, f := 0xB0, b := 0x00, c := 0x13, d := 0x00, e := 0xD8, h := 0x01, l := 0x4D, sp := 0xFFFE, pc := 0x0100 }
  ints := { ie := 0x00, iflag := 0x01, ime := false, halted := false, eiDelay := 0, diDelay := 0 }
  timer := { div := Config.div0, divAcc := 0, tima := 0x00, tma := 0x00, tac := 0b000, timaAcc := 0 }
  lcd :=
    { mode := .spriteScan, modeClock := 0, ly := 0, lcdc := 0x91, statEn := 0b0000, scy := 0, scx := 0, lyc := 0, bgp := 0xFC,
      obp0 := 0xFF, obp1 := 0xFF, wy := 0, wx := 0, fb := blankFrame }
  mem := []
  dmaReg := 0xFF
  joypSel := 0b11
  cart := .none
  input := Buttons.released
  inputQueue := []
  ieHigh := 0
  run := .running
  cost := 0

end Sys2Proof.Machine
end

