-- ==== Sys2Proof/Machine/Memory.lean ====
section
/-! DEFINITION. The sparse byte store in its one canonical form. -/

namespace Sys2Proof.Machine

/-- What an unlisted byte reads as: 0x00, the `INIT_MEM` of 95_test_vectors (log 1). -/
def Memory.blank : Byte := 0x00

/-- The byte at an address. -/
def Memory.read : Memory → Nat → Byte
  | [], _ => Memory.blank
  | (k, v) :: rest, a => if k = a then v else Memory.read rest a

/-- Store a byte, keeping the canonical form: storing the blank byte removes the cell. -/
def Memory.write : Memory → Nat → Byte → Memory
  | [], a, v => if v = Memory.blank then [] else [(a, v)]
  | (k, w) :: rest, a, v =>
    if k < a then (k, w) :: Memory.write rest a v
    else if k = a then (if v = Memory.blank then rest else (a, v) :: rest)
    else if v = Memory.blank then (k, w) :: rest
    else (a, v) :: (k, w) :: rest

/-- The canonical form: addresses strictly rising, no cell holding the blank byte. -/
def Memory.wf : Memory → Bool
  | [] => true
  | (k, v) :: rest => v != Memory.blank && rest.all (fun cell => decide (k < cell.1)) && Memory.wf rest

end Sys2Proof.Machine
end

