-- ==== Sys2Proof/Machine/Cart.lean ====
section
/-! DEFINITION. The cartridge: `CART.read` and `CART.write` (R112) for the variants of R113 and for any other
cartridge, and the load-time check (R374). -/

namespace Sys2Proof.Machine

/-- R113.3: where a banked read lands in the image. The lower window reads `image[addr]` (N19, log 6). -/
def bankedOffset (bank : BitVec 5) (addr : Word) : Nat :=
  if addr.toNat < 0x4000 then addr.toNat else bank.toNat * 0x4000 + (addr.toNat - 0x4000)

/-- R112 `CART.read`: `none` where the cartridge declines the address (R101). The reference variants read 0xFF at
0xA000..0xBFFF (C11, N19, log 6). -/
def Cart.read (c : Cart) (addr : Word) : Option Byte :=
  match c with
  | .none => some 0xFF
  | .nonBanked image => if addr.toNat < 0x8000 then some (image.read addr.toNat) else some 0xFF
  | .banked image bank => if addr.toNat < 0x8000 then some (image.read (bankedOffset bank addr)) else some 0xFF
  | .other declined writes => if addr ∈ declined then Option.none else Config.cartRead writes addr

/-- R113.3: the bank that a write to 0x2000..0x3FFF selects; bank 0 clamps to 1. -/
def selectedBank (v : Byte) : BitVec 5 :=
  if v.extractLsb' 0 5 = 0 then 1 else v.extractLsb' 0 5

/-- R112 `CART.write`: `none` where the cartridge declines the address (R101). DESIGN CHOICE (log 6): the banked variant
has none of the optional RAM bank that R113 and N19 leave open, so it ignores writes outside 0x2000..0x3FFF. -/
def Cart.write (c : Cart) (addr : Word) (v : Byte) : Option Cart :=
  match c with
  | .none => some .none
  | .nonBanked image => some (.nonBanked image)
  | .banked image bank =>
    if 0x2000 ≤ addr.toNat ∧ addr.toNat < 0x4000 then some (.banked image (selectedBank v)) else some (.banked image bank)
  | .other declined writes =>
    if addr ∉ declined ∧ Config.cartAccepts writes addr v = true then some (.other declined ((addr, v) :: writes)) else Option.none

/-- R374: where a cartridge image holds its controller byte. -/
def headerAddress : Nat := 0x147

/-- R112, R113, R374: build the cartridge of an image, or fail with the header byte. Header 0x00 selects the
non-banked controller (R113.2); every other byte is left to the free value `Config.controllerOf` (log 6). -/
def loadCart (image : Memory) : Except Fatal Cart :=
  let header := image.read headerAddress
  if header = 0x00 then .ok (.nonBanked image)
  else
    match Config.controllerOf header with
    | .nonBanked => .ok (.nonBanked image)
    | .banked => .ok (.banked image 1)
    | .unrecognised => .error (.unsupportedCartridge header)

/-- The launch inputs of R7 and R471. -/
structure Launch where
  /-- the cartridge: `none` for an arbitrary `CART`, else its image -/
  image : Option Memory
  /-- the addresses an arbitrary `CART` always declines (R101) -/
  declined : List Word
  /-- `INIT_MEM` (R66) -/
  initMem : Memory
  /-- `IE_HIGH_READ` (R61) -/
  ieHigh : BitVec 3
  /-- `INPUT`, value by value (R105, R472): as each step takes them (log 4) -/
  inputs : List Buttons
  deriving DecidableEq, Repr

/-- R471: the state in which the driver's loop starts, for given launch inputs. An image that is not recognised
starts the run in the fatal state (R374). -/
def State.launch (p : Launch) : State :=
  let s := { State.reset with mem := p.initMem, ieHigh := p.ieHigh, inputQueue := p.inputs }
  match p.image with
  | .none => { s with cart := .other p.declined [] }
  | .some image =>
    match loadCart image with
    | .ok c => { s with cart := c }
    | .error k => { s with run := .fatal k }

end Sys2Proof.Machine
end

