-- ==== Sys2Proof/Machine/Ops.lean ====
section
/-! DEFINITION. The named operations over memory and registers: the bus (R91, R92, R98), fetch and stack primitives
(R11, R12), the fatal errors (R371), taking an interrupt (R387) and returning from one (R340). -/

namespace Sys2Proof.Machine

/-- An operation that gives a value or ends in the fatal state; the error IS that state, with every change made
before the raise (R371). -/
abbrev Act (α : Type) := Except State α

abbrev Result := Host.Outcome State Fault Refusal

/-! ## Fatal errors -/

/-- R13, R371: `raise Fatal(kind, info)`. Nothing else changes and the step returns no cost (log 7). -/
def State.raise (s : State) (k : Fatal) : State := { s with run := .fatal k, cost := 0 }

/-- R13 `cost m`: the end of a rule; the CPU step returns m M-cycles. -/
def finish (m : Nat) (s : State) : Result := .next { s with cost := m }

/-- An instruction whose rule may end in the fatal state, which is a next state of the machine (R41, log 7). -/
def perform (m : Nat) (act : Act State) : Result :=
  match act with
  | .ok s => finish m s
  | .error s => .next s

/-! ## The address map -/

/-- R98, R104: the owner of an I/O address. -/
inductive IoReg where
  | joyp | div | tima | tma | tac | iflag | lcdc | stat | scy | scx | ly | lyc | dma | bgp | obp0 | obp1 | wy | wx
  /-- a plain byte: R104, and the serial registers of R106 -/
  | plain
  deriving DecidableEq, Repr

/-- R43, R98: which register an I/O address holds. -/
def ioReg (addr : Word) : IoReg :=
  if addr = 0xFF00 then .joyp
  else if addr = 0xFF04 then .div
  else if addr = 0xFF05 then .tima
  else if addr = 0xFF06 then .tma
  else if addr = 0xFF07 then .tac
  else if addr = 0xFF0F then .iflag
  else if addr = 0xFF40 then .lcdc
  else if addr = 0xFF41 then .stat
  else if addr = 0xFF42 then .scy
  else if addr = 0xFF43 then .scx
  else if addr = 0xFF44 then .ly
  else if addr = 0xFF45 then .lyc
  else if addr = 0xFF46 then .dma
  else if addr = 0xFF47 then .bgp
  else if addr = 0xFF48 then .obp0
  else if addr = 0xFF49 then .obp1
  else if addr = 0xFF4A then .wy
  else if addr = 0xFF4B then .wx
  else .plain

/-- R91, R92: what backs an address. -/
inductive Region where
  | cart
  /-- a byte of VRAM, WRAM, OAM or HRAM, at its key in `State.mem` -/
  | store (key : Nat)
  | unusable
  | io (r : IoReg)
  | ie
  deriving DecidableEq, Repr

/-- R91, R92: the range of an address. The echo 0xE000..0xFDFF names the bytes of WRAM (R94). -/
def region (addr : Word) : Region :=
  let n := addr.toNat
  if n < 0x8000 then .cart
  else if n < 0xA000 then .store n
  else if n < 0xC000 then .cart
  else if n < 0xE000 then .store n
  else if n < 0xFE00 then .store (n - 0x2000)
  else if n < 0xFEA0 then .store n
  else if n < 0xFF00 then .unusable
  else if n < 0xFF80 then .io (ioReg addr)
  else if n < 0xFFFF then .store n
  else .ie

/-! ## Reading -/

/-- R39, R411: the mode number in STAT bits 1:0. -/
def Mode.code : Mode → BitVec 2
  | .hblank => 0
  | .vblank => 1
  | .spriteScan => 2
  | .pixelTransfer => 3

/-- R50: `0x80 | STAT_EN << 3 | (LY == LYC) << 2 | mode`. -/
def Display.stat (d : Display) : Byte :=
  1#1 ++ d.statEn ++ BitVec.ofBool (d.ly == d.lyc) ++ d.mode.code

/-- R105: `Right | Left << 1 | Up << 2 | Down << 3`. -/
def Buttons.directions (i : Buttons) : BitVec 4 :=
  BitVec.ofBool i.down ++ BitVec.ofBool i.up ++ BitVec.ofBool i.left ++ BitVec.ofBool i.right

/-- R105: `A | B << 1 | Select << 2 | Start << 3`. -/
def Buttons.actions (i : Buttons) : BitVec 4 :=
  BitVec.ofBool i.start ++ BitVec.ofBool i.select ++ BitVec.ofBool i.b ++ BitVec.ofBool i.a

/-- R105: the read of 0xFF00, `0xC0 | JOYP_SEL << 4 | (~pressed & 0x0F)`. -/
def State.joypad (s : State) : Byte :=
  let dir := if s.joypSel.getLsbD 0 then 0#4 else s.input.directions
  let buttons := if s.joypSel.getLsbD 1 then 0#4 else s.input.actions
  0b11#2 ++ s.joypSel ++ ~~~(dir ||| buttons)

/-- R44 to R60, R104 to R106: the read of an I/O address. -/
def State.ioRead (s : State) (addr : Word) (r : IoReg) : Byte :=
  match r with
  | .joyp => s.joypad
  | .div => s.timer.div
  | .tima => s.timer.tima
  | .tma => s.timer.tma
  | .tac => 0b11111#5 ++ s.timer.tac
  | .iflag => 0b111#3 ++ s.ints.iflag
  | .lcdc => s.lcd.lcdc
  | .stat => s.lcd.stat
  | .scy => s.lcd.scy
  | .scx => s.lcd.scx
  | .ly => s.lcd.ly
  | .lyc => s.lcd.lyc
  | .dma => s.dmaReg
  | .bgp => s.lcd.bgp
  | .obp0 => s.lcd.obp0
  | .obp1 => s.lcd.obp1
  | .wy => s.lcd.wy
  | .wx => s.lcd.wx
  | .plain => s.mem.read addr.toNat

/-- R91: the byte a read of an address gives, or `none` where the cartridge declines it (R101). A read changes
nothing (R103). -/
def State.busRead (s : State) (addr : Word) : Option Byte :=
  match region addr with
  | .cart => s.cart.read addr
  | .store key => some (s.mem.read key)
  | .unusable => some 0xFF
  | .io r => some (s.ioRead addr r)
  | .ie => some (s.ieHigh ++ s.ints.ie)

/-- R11 `MemRead(addr, 1)`. -/
def State.readByte (s : State) (addr : Word) : Act Byte :=
  match s.busRead addr with
  | some v => .ok v
  | none => .error (s.raise (.unmappedAccess addr .read))

/-- R11 `MemRead(addr, 2)`: the low byte first. -/
def State.readWord (s : State) (addr : Word) : Act Word := do
  let lo ← s.readByte addr
  let hi ← s.readByte (addr + 1)
  return joinBytes hi lo

/-! ## Writing -/

/-- R102: the first byte of OAM. -/
def oamBase : Nat := 0xFE00

/-- R102: copy the bytes at `page * 256 + i` to `OAM[i]`, for each i of the list in turn. -/
def dmaCopy (page : Byte) : List Nat → State → Act State
  | [], s => .ok s
  | i :: rest, s => do
    let v ← s.readByte (joinBytes page 0 + BitVec.ofNat 16 i)
    dmaCopy page rest { s with mem := s.mem.write (oamBase + i) v }

/-- R55, R102: a write to 0xFF46. -/
def State.writeDma (s : State) (v : Byte) : Act State :=
  dmaCopy v (List.range 160) { s with dmaReg := v }

/-- R416: the power-off reset of the display. -/
def Display.powerOff (d : Display) : Display :=
  { d with ly := 0, mode := .hblank, modeClock := 0, fb := blankFrame }

/-- R49, R416, R417: a write to LCDC; a write with bit 7 clear also resets the display. -/
def Display.writeLcdc (d : Display) (v : Byte) : Display :=
  let d := { d with lcdc := v }
  if v.getLsbD 7 then d else d.powerOff

/-- R47, R404: a write to TAC keeps the phase below the new period. -/
def Timer.writeTac (t : Timer) (v : Byte) : Timer :=
  let tac := v.extractLsb' 0 3
  { t with tac := tac, timaAcc := t.timaAcc % Config.timaPeriod (tac.extractLsb' 0 2) }

/-- R44 to R60, R104 to R106: the write of an I/O address. -/
def State.ioWrite (s : State) (addr : Word) (r : IoReg) (v : Byte) : Act State :=
  match r with
  | .joyp => .ok { s with joypSel := v.extractLsb' 4 2 }
  | .div => .ok { s with timer := { s.timer with div := 0, divAcc := 0 } }
  | .tima => .ok { s with timer := { s.timer with tima := v } }
  | .tma => .ok { s with timer := { s.timer with tma := v } }
  | .tac => .ok { s with timer := s.timer.writeTac v }
  | .iflag => .ok { s with ints := { s.ints with iflag := v.extractLsb' 0 5 } }
  | .lcdc => .ok { s with lcd := s.lcd.writeLcdc v }
  | .stat => .ok { s with lcd := { s.lcd with statEn := v.extractLsb' 3 4 } }
  | .scy => .ok { s with lcd := { s.lcd with scy := v } }
  | .scx => .ok { s with lcd := { s.lcd with scx := v } }
  | .ly => .ok s
  | .lyc => .ok { s with lcd := { s.lcd with lyc := v } }
  | .dma => s.writeDma v
  | .bgp => .ok { s with lcd := { s.lcd with bgp := v } }
  | .obp0 => .ok { s with lcd := { s.lcd with obp0 := v } }
  | .obp1 => .ok { s with lcd := { s.lcd with obp1 := v } }
  | .wy => .ok { s with lcd := { s.lcd with wy := v } }
  | .wx => .ok { s with lcd := { s.lcd with wx := v } }
  | .plain => .ok { s with mem := s.mem.write addr.toNat v }

/-- R11 `MemWrite(addr, 1, v)`, by R92. A cartridge that declines the write raises `UnmappedAccess` and the
access has no effect (R101). -/
def State.writeByte (s : State) (addr : Word) (v : Byte) : Act State :=
  match region addr with
  | .cart =>
    match s.cart.write addr v with
    | some c => .ok { s with cart := c }
    | none => .error (s.raise (.unmappedAccess addr .write))
  | .store key => .ok { s with mem := s.mem.write key v }
  | .unusable => .ok s
  | .io r => s.ioWrite addr r v
  | .ie => .ok { s with ints := { s.ints with ie := v.extractLsb' 0 5 } }

/-- R11 `MemWrite(addr, 2, v)`: the low byte first. -/
def State.writeWord (s : State) (addr : Word) (v : Word) : Act State := do
  let s ← s.writeByte addr (lowByte v)
  s.writeByte (addr + 1) (highByte v)

/-! ## PC, SP, fetch and stack -/

/-- R13 `pc <- target`. -/
def State.setPc (s : State) (target : Word) : State := { s with regs := { s.regs with pc := target } }

/-- `SP <- v`. -/
def State.setSp (s : State) (v : Word) : State := { s with regs := { s.regs with sp := v } }

/-- R12 `Fetch8`. -/
def State.fetch8 (s : State) : Act (Byte × State) := do
  let v ← s.readByte s.regs.pc
  return (v, s.setPc (s.regs.pc + 1))

/-- R12 `Push16`. -/
def State.push16 (s : State) (v : Word) : Act State :=
  (s.setSp (s.regs.sp - 2)).writeWord (s.regs.sp - 2) v

/-- R12 `Pop16`. -/
def State.pop16 (s : State) : Act (Word × State) := do
  let v ← s.readWord s.regs.sp
  return (v, s.setSp (s.regs.sp + 2))

/-! ## Taking an interrupt and returning from one -/

/-- `IME <- b`. -/
def State.setIme (s : State) (b : Bool) : State := { s with ints := { s.ints with ime := b } }

/-- R380: the vector of source i, `0x0040 + 8 × i`. -/
def interruptVector (i : Fin 5) : Word := 0x0040 + 8 * BitVec.ofNat 16 i.val

/-- R387: dispatch of source i: IME is cleared, PC is pushed, PC goes to the vector. Nothing else is saved. -/
def State.dispatch (s : State) (i : Fin 5) : Act State := do
  let s ← (s.setIme false).push16 s.regs.pc
  return s.setPc (interruptVector i)

/-- R340: the return from an interrupt: `PC <- Pop16(); IME <- true`. -/
def State.returnFromInterrupt (s : State) : Act State := do
  let (target, s) ← s.pop16
  return (s.setPc target).setIme true

end Sys2Proof.Machine
end

