-- ==== Sys2Proof/Syntax.lean ====
section
/-! DEFINITION. The instructions: one constructor of `Instr` for every row of spec/opcode_table.json (R141, R142,
R143, R356), the operand names its fields select (R134 to R138, R281), and `Instr.form`: for each row its
rule's operand form with the operands its mnemonic names. The decoder does not use `form`; the encoder and
the statements do. -/

namespace Sys2Proof

/-- R134: the seven registers an 8-bit register field names (code 110 is the byte at HL). -/
inductive Reg8 where
  | B | C | D | E | H | L | A
  deriving DecidableEq, Repr

/-- R31, R135, R136: the 16-bit operands. A `reg16` field names BC, DE, HL or SP; a `regpp` field names
BC, DE, HL or AF. -/
inductive Pair where
  | BC | DE | HL | SP | AF
  deriving DecidableEq, Repr

/-- R137: the conditions. -/
inductive Cond where
  | NZ | Z | NC | C
  deriving DecidableEq, Repr

/-- R138: the eight ALU operations on A. -/
inductive AluOp where
  | add | adc | sub | sbc | and | xor | or | cp
  deriving DecidableEq, Repr

/-- R281: the eight rotates and shifts. -/
inductive ShiftOp where
  | rlc | rrc | rl | rr | sla | sra | swap | srl
  deriving DecidableEq, Repr

/-- One constructor per row of spec/opcode_table.json: the rows with an operand first, then the others, each in
the table's order. `n8` and `e8` are the byte after the opcode, `n16` the two bytes after it, little-endian (R132). -/
inductive Instr where
  | ld_BC_n16 (n16 : Word)
  | ld_B_n8 (n8 : Byte)
  | ld_atN16_SP (n16 : Word)
  | ld_C_n8 (n8 : Byte)
  | stop (n8 : Byte)
  | ld_DE_n16 (n16 : Word)
  | ld_D_n8 (n8 : Byte)
  | jr_e8 (e8 : Byte)
  | ld_E_n8 (n8 : Byte)
  | jr_NZ_e8 (e8 : Byte)
  | ld_HL_n16 (n16 : Word)
  | ld_H_n8 (n8 : Byte)
  | jr_Z_e8 (e8 : Byte)
  | ld_L_n8 (n8 : Byte)
  | jr_NC_e8 (e8 : Byte)
  | ld_SP_n16 (n16 : Word)
  | ld_atHL_n8 (n8 : Byte)
  | jr_C_e8 (e8 : Byte)
  | ld_A_n8 (n8 : Byte)
  | jp_NZ_n16 (n16 : Word)
  | jp_n16 (n16 : Word)
  | call_NZ_n16 (n16 : Word)
  | add_A_n8 (n8 : Byte)
  | jp_Z_n16 (n16 : Word)
  | prefixCb (op2 : Byte)
  | call_Z_n16 (n16 : Word)
  | call_n16 (n16 : Word)
  | adc_A_n8 (n8 : Byte)
  | jp_NC_n16 (n16 : Word)
  | call_NC_n16 (n16 : Word)
  | sub_n8 (n8 : Byte)
  | jp_C_n16 (n16 : Word)
  | call_C_n16 (n16 : Word)
  | sbc_A_n8 (n8 : Byte)
  | ldh_atN8_A (n8 : Byte)
  | and_n8 (n8 : Byte)
  | add_SP_e8 (e8 : Byte)
  | ld_atN16_A (n16 : Word)
  | xor_n8 (n8 : Byte)
  | ldh_A_atN8 (n8 : Byte)
  | or_n8 (n8 : Byte)
  | ld_HL_SPplusE8 (e8 : Byte)
  | ld_A_atN16 (n16 : Word)
  | cp_n8 (n8 : Byte)
  | nop
  | ld_atBC_A
  | inc_BC
  | inc_B
  | dec_B
  | rlca
  | add_HL_BC
  | ld_A_atBC
  | dec_BC
  | inc_C
  | dec_C
  | rrca
  | ld_atDE_A
  | inc_DE
  | inc_D
  | dec_D
  | rla
  | add_HL_DE
  | ld_A_atDE
  | dec_DE
  | inc_E
  | dec_E
  | rra
  | ld_atHLinc_A
  | inc_HL
  | inc_H
  | dec_H
  | daa
  | add_HL_HL
  | ld_A_atHLinc
  | dec_HL
  | inc_L
  | dec_L
  | cpl
  | ld_atHLdec_A
  | inc_SP
  | inc_atHL
  | dec_atHL
  | scf
  | add_HL_SP
  | ld_A_atHLdec
  | dec_SP
  | inc_A
  | dec_A
  | ccf
  | ld_B_B
  | ld_B_C
  | ld_B_D
  | ld_B_E
  | ld_B_H
  | ld_B_L
  | ld_B_atHL
  | ld_B_A
  | ld_C_B
  | ld_C_C
  | ld_C_D
  | ld_C_E
  | ld_C_H
  | ld_C_L
  | ld_C_atHL
  | ld_C_A
  | ld_D_B
  | ld_D_C
  | ld_D_D
  | ld_D_E
  | ld_D_H
  | ld_D_L
  | ld_D_atHL
  | ld_D_A
  | ld_E_B
  | ld_E_C
  | ld_E_D
  | ld_E_E
  | ld_E_H
  | ld_E_L
  | ld_E_atHL
  | ld_E_A
  | ld_H_B
  | ld_H_C
  | ld_H_D
  | ld_H_E
  | ld_H_H
  | ld_H_L
  | ld_H_atHL
  | ld_H_A
  | ld_L_B
  | ld_L_C
  | ld_L_D
  | ld_L_E
  | ld_L_H
  | ld_L_L
  | ld_L_atHL
  | ld_L_A
  | ld_atHL_B
  | ld_atHL_C
  | ld_atHL_D
  | ld_atHL_E
  | ld_atHL_H
  | ld_atHL_L
  | halt
  | ld_atHL_A
  | ld_A_B
  | ld_A_C
  | ld_A_D
  | ld_A_E
  | ld_A_H
  | ld_A_L
  | ld_A_atHL
  | ld_A_A
  | add_A_B
  | add_A_C
  | add_A_D
  | add_A_E
  | add_A_H
  | add_A_L
  | add_A_atHL
  | add_A_A
  | adc_A_B
  | adc_A_C
  | adc_A_D
  | adc_A_E
  | adc_A_H
  | adc_A_L
  | adc_A_atHL
  | adc_A_A
  | sub_B
  | sub_C
  | sub_D
  | sub_E
  | sub_H
  | sub_L
  | sub_atHL
  | sub_A
  | sbc_A_B
  | sbc_A_C
  | sbc_A_D
  | sbc_A_E
  | sbc_A_H
  | sbc_A_L
  | sbc_A_atHL
  | sbc_A_A
  | and_B
  | and_C
  | and_D
  | and_E
  | and_H
  | and_L
  | and_atHL
  | and_A
  | xor_B
  | xor_C
  | xor_D
  | xor_E
  | xor_H
  | xor_L
  | xor_atHL
  | xor_A
  | or_B
  | or_C
  | or_D
  | or_E
  | or_H
  | or_L
  | or_atHL
  | or_A
  | cp_B
  | cp_C
  | cp_D
  | cp_E
  | cp_H
  | cp_L
  | cp_atHL
  | cp_A
  | ret_NZ
  | pop_BC
  | push_BC
  | rst_00
  | ret_Z
  | ret
  | rst_08
  | ret_NC
  | pop_DE
  | illegal_D3
  | push_DE
  | rst_10
  | ret_C
  | reti
  | illegal_DB
  | illegal_DD
  | rst_18
  | pop_HL
  | ld_atC_A
  | illegal_E3
  | illegal_E4
  | push_HL
  | rst_20
  | jp_HL
  | illegal_EB
  | illegal_EC
  | illegal_ED
  | rst_28
  | pop_AF
  | ld_A_atC
  | di
  | illegal_F4
  | push_AF
  | rst_30
  | ld_SP_HL
  | ei
  | illegal_FC
  | illegal_FD
  | rst_38
  | rlc_B
  | rlc_C
  | rlc_D
  | rlc_E
  | rlc_H
  | rlc_L
  | rlc_atHL
  | rlc_A
  | rrc_B
  | rrc_C
  | rrc_D
  | rrc_E
  | rrc_H
  | rrc_L
  | rrc_atHL
  | rrc_A
  | rl_B
  | rl_C
  | rl_D
  | rl_E
  | rl_H
  | rl_L
  | rl_atHL
  | rl_A
  | rr_B
  | rr_C
  | rr_D
  | rr_E
  | rr_H
  | rr_L
  | rr_atHL
  | rr_A
  | sla_B
  | sla_C
  | sla_D
  | sla_E
  | sla_H
  | sla_L
  | sla_atHL
  | sla_A
  | sra_B
  | sra_C
  | sra_D
  | sra_E
  | sra_H
  | sra_L
  | sra_atHL
  | sra_A
  | swap_B
  | swap_C
  | swap_D
  | swap_E
  | swap_H
  | swap_L
  | swap_atHL
  | swap_A
  | srl_B
  | srl_C
  | srl_D
  | srl_E
  | srl_H
  | srl_L
  | srl_atHL
  | srl_A
  | bit_0_B
  | bit_0_C
  | bit_0_D
  | bit_0_E
  | bit_0_H
  | bit_0_L
  | bit_0_atHL
  | bit_0_A
  | bit_1_B
  | bit_1_C
  | bit_1_D
  | bit_1_E
  | bit_1_H
  | bit_1_L
  | bit_1_atHL
  | bit_1_A
  | bit_2_B
  | bit_2_C
  | bit_2_D
  | bit_2_E
  | bit_2_H
  | bit_2_L
  | bit_2_atHL
  | bit_2_A
  | bit_3_B
  | bit_3_C
  | bit_3_D
  | bit_3_E
  | bit_3_H
  | bit_3_L
  | bit_3_atHL
  | bit_3_A
  | bit_4_B
  | bit_4_C
  | bit_4_D
  | bit_4_E
  | bit_4_H
  | bit_4_L
  | bit_4_atHL
  | bit_4_A
  | bit_5_B
  | bit_5_C
  | bit_5_D
  | bit_5_E
  | bit_5_H
  | bit_5_L
  | bit_5_atHL
  | bit_5_A
  | bit_6_B
  | bit_6_C
  | bit_6_D
  | bit_6_E
  | bit_6_H
  | bit_6_L
  | bit_6_atHL
  | bit_6_A
  | bit_7_B
  | bit_7_C
  | bit_7_D
  | bit_7_E
  | bit_7_H
  | bit_7_L
  | bit_7_atHL
  | bit_7_A
  | res_0_B
  | res_0_C
  | res_0_D
  | res_0_E
  | res_0_H
  | res_0_L
  | res_0_atHL
  | res_0_A
  | res_1_B
  | res_1_C
  | res_1_D
  | res_1_E
  | res_1_H
  | res_1_L
  | res_1_atHL
  | res_1_A
  | res_2_B
  | res_2_C
  | res_2_D
  | res_2_E
  | res_2_H
  | res_2_L
  | res_2_atHL
  | res_2_A
  | res_3_B
  | res_3_C
  | res_3_D
  | res_3_E
  | res_3_H
  | res_3_L
  | res_3_atHL
  | res_3_A
  | res_4_B
  | res_4_C
  | res_4_D
  | res_4_E
  | res_4_H
  | res_4_L
  | res_4_atHL
  | res_4_A
  | res_5_B
  | res_5_C
  | res_5_D
  | res_5_E
  | res_5_H
  | res_5_L
  | res_5_atHL
  | res_5_A
  | res_6_B
  | res_6_C
  | res_6_D
  | res_6_E
  | res_6_H
  | res_6_L
  | res_6_atHL
  | res_6_A
  | res_7_B
  | res_7_C
  | res_7_D
  | res_7_E
  | res_7_H
  | res_7_L
  | res_7_atHL
  | res_7_A
  | set_0_B
  | set_0_C
  | set_0_D
  | set_0_E
  | set_0_H
  | set_0_L
  | set_0_atHL
  | set_0_A
  | set_1_B
  | set_1_C
  | set_1_D
  | set_1_E
  | set_1_H
  | set_1_L
  | set_1_atHL
  | set_1_A
  | set_2_B
  | set_2_C
  | set_2_D
  | set_2_E
  | set_2_H
  | set_2_L
  | set_2_atHL
  | set_2_A
  | set_3_B
  | set_3_C
  | set_3_D
  | set_3_E
  | set_3_H
  | set_3_L
  | set_3_atHL
  | set_3_A
  | set_4_B
  | set_4_C
  | set_4_D
  | set_4_E
  | set_4_H
  | set_4_L
  | set_4_atHL
  | set_4_A
  | set_5_B
  | set_5_C
  | set_5_D
  | set_5_E
  | set_5_H
  | set_5_L
  | set_5_atHL
  | set_5_A
  | set_6_B
  | set_6_C
  | set_6_D
  | set_6_E
  | set_6_H
  | set_6_L
  | set_6_atHL
  | set_6_A
  | set_7_B
  | set_7_C
  | set_7_D
  | set_7_E
  | set_7_H
  | set_7_L
  | set_7_atHL
  | set_7_A
  deriving DecidableEq, Repr

/-- The operand form of an instruction: which numbered rule gives its meaning, and with which operands. -/
inductive Form where
  /-- R161 -/
  | ldRegReg (d r : Reg8)
  /-- R162 -/
  | ldRegImm (d : Reg8) (n8 : Byte)
  /-- R163 -/
  | ldRegAtHL (d : Reg8)
  /-- R164 -/
  | ldAtHLReg (r : Reg8)
  /-- R165 -/
  | ldAtHLImm (n8 : Byte)
  /-- R166, R167 -/
  | ldAAtPair (p : Pair)
  /-- R168, R169 -/
  | ldAtPairA (p : Pair)
  /-- R170 -/
  | ldAAtImm (n16 : Word)
  /-- R171 -/
  | ldAtImmA (n16 : Word)
  /-- R172 -/
  | ldhAAtImm (n8 : Byte)
  /-- R173 -/
  | ldhAtImmA (n8 : Byte)
  /-- R174 -/
  | ldAAtC
  /-- R175 -/
  | ldAtCA
  /-- R176 -/
  | ldAtHLincA
  /-- R177 -/
  | ldAtHLdecA
  /-- R178 -/
  | ldAAtHLinc
  /-- R179 -/
  | ldAAtHLdec
  /-- R201 -/
  | ldPairImm (rr : Pair) (n16 : Word)
  /-- R202 -/
  | ldAtImmSP (n16 : Word)
  /-- R203 -/
  | ldSPHL
  /-- R204 -/
  | ldHLSPe8 (e8 : Byte)
  /-- R205 -/
  | push (qq : Pair)
  /-- R206, R207 -/
  | pop (qq : Pair)
  /-- R224, R227, R230, R233, R236, R239, R242, R245 -/
  | aluReg (op : AluOp) (r : Reg8)
  /-- R225, R228, R231, R234, R237, R240, R243, R246 -/
  | aluAtHL (op : AluOp)
  /-- R226, R229, R232, R235, R238, R241, R244, R247 -/
  | aluImm (op : AluOp) (n8 : Byte)
  /-- R248 -/
  | incReg (r : Reg8)
  /-- R249 -/
  | incAtHL
  /-- R250 -/
  | decReg (r : Reg8)
  /-- R251 -/
  | decAtHL
  /-- R252 -/
  | daa
  /-- R253 -/
  | cpl
  /-- R254 -/
  | scf
  /-- R255 -/
  | ccf
  /-- R271 -/
  | addHLPair (rr : Pair)
  /-- R272 -/
  | incPair (rr : Pair)
  /-- R273 -/
  | decPair (rr : Pair)
  /-- R274 -/
  | addSPe8 (e8 : Byte)
  /-- R282 to R285 -/
  | rotA (op : ShiftOp)
  /-- R286 to R300, even -/
  | shiftReg (op : ShiftOp) (r : Reg8)
  /-- R287 to R301, odd -/
  | shiftAtHL (op : ShiftOp)
  /-- R302 -/
  | bitReg (b : Fin 8) (r : Reg8)
  /-- R303 -/
  | bitAtHL (b : Fin 8)
  /-- R304 -/
  | resReg (b : Fin 8) (r : Reg8)
  /-- R305 -/
  | resAtHL (b : Fin 8)
  /-- R306 -/
  | setReg (b : Fin 8) (r : Reg8)
  /-- R307 -/
  | setAtHL (b : Fin 8)
  /-- R331 -/
  | jp (n16 : Word)
  /-- R332 -/
  | jpCond (cc : Cond) (n16 : Word)
  /-- R333 -/
  | jpHL
  /-- R334 -/
  | jr (e8 : Byte)
  /-- R335 -/
  | jrCond (cc : Cond) (e8 : Byte)
  /-- R336 -/
  | call (n16 : Word)
  /-- R337 -/
  | callCond (cc : Cond) (n16 : Word)
  /-- R338 -/
  | ret
  /-- R339 -/
  | retCond (cc : Cond)
  /-- R340 -/
  | reti
  /-- R341 -/
  | rst (t : Fin 8)
  /-- R351 -/
  | nop
  /-- R352 -/
  | halt
  /-- R353 -/
  | stop (n8 : Byte)
  /-- R354 -/
  | di
  /-- R355 -/
  | ei
  /-- R356 -/
  | prefixCb (op2 : Byte)
  /-- R357 -/
  | illegal (op : Byte)
  deriving DecidableEq, Repr

/-- The form of each row (the table's `rule` column and the operands its mnemonic names). -/
def Instr.form : Instr → Form
  | .nop => .nop
  | .ld_BC_n16 n16 => .ldPairImm .BC n16
  | .ld_atBC_A => .ldAtPairA .BC
  | .inc_BC => .incPair .BC
  | .inc_B => .incReg .B
  | .dec_B => .decReg .B
  | .ld_B_n8 n8 => .ldRegImm .B n8
  | .rlca => .rotA .rlc
  | .ld_atN16_SP n16 => .ldAtImmSP n16
  | .add_HL_BC => .addHLPair .BC
  | .ld_A_atBC => .ldAAtPair .BC
  | .dec_BC => .decPair .BC
  | .inc_C => .incReg .C
  | .dec_C => .decReg .C
  | .ld_C_n8 n8 => .ldRegImm .C n8
  | .rrca => .rotA .rrc
  | .stop n8 => .stop n8
  | .ld_DE_n16 n16 => .ldPairImm .DE n16
  | .ld_atDE_A => .ldAtPairA .DE
  | .inc_DE => .incPair .DE
  | .inc_D => .incReg .D
  | .dec_D => .decReg .D
  | .ld_D_n8 n8 => .ldRegImm .D n8
  | .rla => .rotA .rl
  | .jr_e8 e8 => .jr e8
  | .add_HL_DE => .addHLPair .DE
  | .ld_A_atDE => .ldAAtPair .DE
  | .dec_DE => .decPair .DE
  | .inc_E => .incReg .E
  | .dec_E => .decReg .E
  | .ld_E_n8 n8 => .ldRegImm .E n8
  | .rra => .rotA .rr
  | .jr_NZ_e8 e8 => .jrCond .NZ e8
  | .ld_HL_n16 n16 => .ldPairImm .HL n16
  | .ld_atHLinc_A => .ldAtHLincA
  | .inc_HL => .incPair .HL
  | .inc_H => .incReg .H
  | .dec_H => .decReg .H
  | .ld_H_n8 n8 => .ldRegImm .H n8
  | .daa => .daa
  | .jr_Z_e8 e8 => .jrCond .Z e8
  | .add_HL_HL => .addHLPair .HL
  | .ld_A_atHLinc => .ldAAtHLinc
  | .dec_HL => .decPair .HL
  | .inc_L => .incReg .L
  | .dec_L => .decReg .L
  | .ld_L_n8 n8 => .ldRegImm .L n8
  | .cpl => .cpl
  | .jr_NC_e8 e8 => .jrCond .NC e8
  | .ld_SP_n16 n16 => .ldPairImm .SP n16
  | .ld_atHLdec_A => .ldAtHLdecA
  | .inc_SP => .incPair .SP
  | .inc_atHL => .incAtHL
  | .dec_atHL => .decAtHL
  | .ld_atHL_n8 n8 => .ldAtHLImm n8
  | .scf => .scf
  | .jr_C_e8 e8 => .jrCond .C e8
  | .add_HL_SP => .addHLPair .SP
  | .ld_A_atHLdec => .ldAAtHLdec
  | .dec_SP => .decPair .SP
  | .inc_A => .incReg .A
  | .dec_A => .decReg .A
  | .ld_A_n8 n8 => .ldRegImm .A n8
  | .ccf => .ccf
  | .ld_B_B => .ldRegReg .B .B
  | .ld_B_C => .ldRegReg .B .C
  | .ld_B_D => .ldRegReg .B .D
  | .ld_B_E => .ldRegReg .B .E
  | .ld_B_H => .ldRegReg .B .H
  | .ld_B_L => .ldRegReg .B .L
  | .ld_B_atHL => .ldRegAtHL .B
  | .ld_B_A => .ldRegReg .B .A
  | .ld_C_B => .ldRegReg .C .B
  | .ld_C_C => .ldRegReg .C .C
  | .ld_C_D => .ldRegReg .C .D
  | .ld_C_E => .ldRegReg .C .E
  | .ld_C_H => .ldRegReg .C .H
  | .ld_C_L => .ldRegReg .C .L
  | .ld_C_atHL => .ldRegAtHL .C
  | .ld_C_A => .ldRegReg .C .A
  | .ld_D_B => .ldRegReg .D .B
  | .ld_D_C => .ldRegReg .D .C
  | .ld_D_D => .ldRegReg .D .D
  | .ld_D_E => .ldRegReg .D .E
  | .ld_D_H => .ldRegReg .D .H
  | .ld_D_L => .ldRegReg .D .L
  | .ld_D_atHL => .ldRegAtHL .D
  | .ld_D_A => .ldRegReg .D .A
  | .ld_E_B => .ldRegReg .E .B
  | .ld_E_C => .ldRegReg .E .C
  | .ld_E_D => .ldRegReg .E .D
  | .ld_E_E => .ldRegReg .E .E
  | .ld_E_H => .ldRegReg .E .H
  | .ld_E_L => .ldRegReg .E .L
  | .ld_E_atHL => .ldRegAtHL .E
  | .ld_E_A => .ldRegReg .E .A
  | .ld_H_B => .ldRegReg .H .B
  | .ld_H_C => .ldRegReg .H .C
  | .ld_H_D => .ldRegReg .H .D
  | .ld_H_E => .ldRegReg .H .E
  | .ld_H_H => .ldRegReg .H .H
  | .ld_H_L => .ldRegReg .H .L
  | .ld_H_atHL => .ldRegAtHL .H
  | .ld_H_A => .ldRegReg .H .A
  | .ld_L_B => .ldRegReg .L .B
  | .ld_L_C => .ldRegReg .L .C
  | .ld_L_D => .ldRegReg .L .D
  | .ld_L_E => .ldRegReg .L .E
  | .ld_L_H => .ldRegReg .L .H
  | .ld_L_L => .ldRegReg .L .L
  | .ld_L_atHL => .ldRegAtHL .L
  | .ld_L_A => .ldRegReg .L .A
  | .ld_atHL_B => .ldAtHLReg .B
  | .ld_atHL_C => .ldAtHLReg .C
  | .ld_atHL_D => .ldAtHLReg .D
  | .ld_atHL_E => .ldAtHLReg .E
  | .ld_atHL_H => .ldAtHLReg .H
  | .ld_atHL_L => .ldAtHLReg .L
  | .halt => .halt
  | .ld_atHL_A => .ldAtHLReg .A
  | .ld_A_B => .ldRegReg .A .B
  | .ld_A_C => .ldRegReg .A .C
  | .ld_A_D => .ldRegReg .A .D
  | .ld_A_E => .ldRegReg .A .E
  | .ld_A_H => .ldRegReg .A .H
  | .ld_A_L => .ldRegReg .A .L
  | .ld_A_atHL => .ldRegAtHL .A
  | .ld_A_A => .ldRegReg .A .A
  | .add_A_B => .aluReg .add .B
  | .add_A_C => .aluReg .add .C
  | .add_A_D => .aluReg .add .D
  | .add_A_E => .aluReg .add .E
  | .add_A_H => .aluReg .add .H
  | .add_A_L => .aluReg .add .L
  | .add_A_atHL => .aluAtHL .add
  | .add_A_A => .aluReg .add .A
  | .adc_A_B => .aluReg .adc .B
  | .adc_A_C => .aluReg .adc .C
  | .adc_A_D => .aluReg .adc .D
  | .adc_A_E => .aluReg .adc .E
  | .adc_A_H => .aluReg .adc .H
  | .adc_A_L => .aluReg .adc .L
  | .adc_A_atHL => .aluAtHL .adc
  | .adc_A_A => .aluReg .adc .A
  | .sub_B => .aluReg .sub .B
  | .sub_C => .aluReg .sub .C
  | .sub_D => .aluReg .sub .D
  | .sub_E => .aluReg .sub .E
  | .sub_H => .aluReg .sub .H
  | .sub_L => .aluReg .sub .L
  | .sub_atHL => .aluAtHL .sub
  | .sub_A => .aluReg .sub .A
  | .sbc_A_B => .aluReg .sbc .B
  | .sbc_A_C => .aluReg .sbc .C
  | .sbc_A_D => .aluReg .sbc .D
  | .sbc_A_E => .aluReg .sbc .E
  | .sbc_A_H => .aluReg .sbc .H
  | .sbc_A_L => .aluReg .sbc .L
  | .sbc_A_atHL => .aluAtHL .sbc
  | .sbc_A_A => .aluReg .sbc .A
  | .and_B => .aluReg .and .B
  | .and_C => .aluReg .and .C
  | .and_D => .aluReg .and .D
  | .and_E => .aluReg .and .E
  | .and_H => .aluReg .and .H
  | .and_L => .aluReg .and .L
  | .and_atHL => .aluAtHL .and
  | .and_A => .aluReg .and .A
  | .xor_B => .aluReg .xor .B
  | .xor_C => .aluReg .xor .C
  | .xor_D => .aluReg .xor .D
  | .xor_E => .aluReg .xor .E
  | .xor_H => .aluReg .xor .H
  | .xor_L => .aluReg .xor .L
  | .xor_atHL => .aluAtHL .xor
  | .xor_A => .aluReg .xor .A
  | .or_B => .aluReg .or .B
  | .or_C => .aluReg .or .C
  | .or_D => .aluReg .or .D
  | .or_E => .aluReg .or .E
  | .or_H => .aluReg .or .H
  | .or_L => .aluReg .or .L
  | .or_atHL => .aluAtHL .or
  | .or_A => .aluReg .or .A
  | .cp_B => .aluReg .cp .B
  | .cp_C => .aluReg .cp .C
  | .cp_D => .aluReg .cp .D
  | .cp_E => .aluReg .cp .E
  | .cp_H => .aluReg .cp .H
  | .cp_L => .aluReg .cp .L
  | .cp_atHL => .aluAtHL .cp
  | .cp_A => .aluReg .cp .A
  | .ret_NZ => .retCond .NZ
  | .pop_BC => .pop .BC
  | .jp_NZ_n16 n16 => .jpCond .NZ n16
  | .jp_n16 n16 => .jp n16
  | .call_NZ_n16 n16 => .callCond .NZ n16
  | .push_BC => .push .BC
  | .add_A_n8 n8 => .aluImm .add n8
  | .rst_00 => .rst 0
  | .ret_Z => .retCond .Z
  | .ret => .ret
  | .jp_Z_n16 n16 => .jpCond .Z n16
  | .prefixCb op2 => .prefixCb op2
  | .call_Z_n16 n16 => .callCond .Z n16
  | .call_n16 n16 => .call n16
  | .adc_A_n8 n8 => .aluImm .adc n8
  | .rst_08 => .rst 1
  | .ret_NC => .retCond .NC
  | .pop_DE => .pop .DE
  | .jp_NC_n16 n16 => .jpCond .NC n16
  | .illegal_D3 => .illegal 0xD3
  | .call_NC_n16 n16 => .callCond .NC n16
  | .push_DE => .push .DE
  | .sub_n8 n8 => .aluImm .sub n8
  | .rst_10 => .rst 2
  | .ret_C => .retCond .C
  | .reti => .reti
  | .jp_C_n16 n16 => .jpCond .C n16
  | .illegal_DB => .illegal 0xDB
  | .call_C_n16 n16 => .callCond .C n16
  | .illegal_DD => .illegal 0xDD
  | .sbc_A_n8 n8 => .aluImm .sbc n8
  | .rst_18 => .rst 3
  | .ldh_atN8_A n8 => .ldhAtImmA n8
  | .pop_HL => .pop .HL
  | .ld_atC_A => .ldAtCA
  | .illegal_E3 => .illegal 0xE3
  | .illegal_E4 => .illegal 0xE4
  | .push_HL => .push .HL
  | .and_n8 n8 => .aluImm .and n8
  | .rst_20 => .rst 4
  | .add_SP_e8 e8 => .addSPe8 e8
  | .jp_HL => .jpHL
  | .ld_atN16_A n16 => .ldAtImmA n16
  | .illegal_EB => .illegal 0xEB
  | .illegal_EC => .illegal 0xEC
  | .illegal_ED => .illegal 0xED
  | .xor_n8 n8 => .aluImm .xor n8
  | .rst_28 => .rst 5
  | .ldh_A_atN8 n8 => .ldhAAtImm n8
  | .pop_AF => .pop .AF
  | .ld_A_atC => .ldAAtC
  | .di => .di
  | .illegal_F4 => .illegal 0xF4
  | .push_AF => .push .AF
  | .or_n8 n8 => .aluImm .or n8
  | .rst_30 => .rst 6
  | .ld_HL_SPplusE8 e8 => .ldHLSPe8 e8
  | .ld_SP_HL => .ldSPHL
  | .ld_A_atN16 n16 => .ldAAtImm n16
  | .ei => .ei
  | .illegal_FC => .illegal 0xFC
  | .illegal_FD => .illegal 0xFD
  | .cp_n8 n8 => .aluImm .cp n8
  | .rst_38 => .rst 7
  | .rlc_B => .shiftReg .rlc .B
  | .rlc_C => .shiftReg .rlc .C
  | .rlc_D => .shiftReg .rlc .D
  | .rlc_E => .shiftReg .rlc .E
  | .rlc_H => .shiftReg .rlc .H
  | .rlc_L => .shiftReg .rlc .L
  | .rlc_atHL => .shiftAtHL .rlc
  | .rlc_A => .shiftReg .rlc .A
  | .rrc_B => .shiftReg .rrc .B
  | .rrc_C => .shiftReg .rrc .C
  | .rrc_D => .shiftReg .rrc .D
  | .rrc_E => .shiftReg .rrc .E
  | .rrc_H => .shiftReg .rrc .H
  | .rrc_L => .shiftReg .rrc .L
  | .rrc_atHL => .shiftAtHL .rrc
  | .rrc_A => .shiftReg .rrc .A
  | .rl_B => .shiftReg .rl .B
  | .rl_C => .shiftReg .rl .C
  | .rl_D => .shiftReg .rl .D
  | .rl_E => .shiftReg .rl .E
  | .rl_H => .shiftReg .rl .H
  | .rl_L => .shiftReg .rl .L
  | .rl_atHL => .shiftAtHL .rl
  | .rl_A => .shiftReg .rl .A
  | .rr_B => .shiftReg .rr .B
  | .rr_C => .shiftReg .rr .C
  | .rr_D => .shiftReg .rr .D
  | .rr_E => .shiftReg .rr .E
  | .rr_H => .shiftReg .rr .H
  | .rr_L => .shiftReg .rr .L
  | .rr_atHL => .shiftAtHL .rr
  | .rr_A => .shiftReg .rr .A
  | .sla_B => .shiftReg .sla .B
  | .sla_C => .shiftReg .sla .C
  | .sla_D => .shiftReg .sla .D
  | .sla_E => .shiftReg .sla .E
  | .sla_H => .shiftReg .sla .H
  | .sla_L => .shiftReg .sla .L
  | .sla_atHL => .shiftAtHL .sla
  | .sla_A => .shiftReg .sla .A
  | .sra_B => .shiftReg .sra .B
  | .sra_C => .shiftReg .sra .C
  | .sra_D => .shiftReg .sra .D
  | .sra_E => .shiftReg .sra .E
  | .sra_H => .shiftReg .sra .H
  | .sra_L => .shiftReg .sra .L
  | .sra_atHL => .shiftAtHL .sra
  | .sra_A => .shiftReg .sra .A
  | .swap_B => .shiftReg .swap .B
  | .swap_C => .shiftReg .swap .C
  | .swap_D => .shiftReg .swap .D
  | .swap_E => .shiftReg .swap .E
  | .swap_H => .shiftReg .swap .H
  | .swap_L => .shiftReg .swap .L
  | .swap_atHL => .shiftAtHL .swap
  | .swap_A => .shiftReg .swap .A
  | .srl_B => .shiftReg .srl .B
  | .srl_C => .shiftReg .srl .C
  | .srl_D => .shiftReg .srl .D
  | .srl_E => .shiftReg .srl .E
  | .srl_H => .shiftReg .srl .H
  | .srl_L => .shiftReg .srl .L
  | .srl_atHL => .shiftAtHL .srl
  | .srl_A => .shiftReg .srl .A
  | .bit_0_B => .bitReg 0 .B
  | .bit_0_C => .bitReg 0 .C
  | .bit_0_D => .bitReg 0 .D
  | .bit_0_E => .bitReg 0 .E
  | .bit_0_H => .bitReg 0 .H
  | .bit_0_L => .bitReg 0 .L
  | .bit_0_atHL => .bitAtHL 0
  | .bit_0_A => .bitReg 0 .A
  | .bit_1_B => .bitReg 1 .B
  | .bit_1_C => .bitReg 1 .C
  | .bit_1_D => .bitReg 1 .D
  | .bit_1_E => .bitReg 1 .E
  | .bit_1_H => .bitReg 1 .H
  | .bit_1_L => .bitReg 1 .L
  | .bit_1_atHL => .bitAtHL 1
  | .bit_1_A => .bitReg 1 .A
  | .bit_2_B => .bitReg 2 .B
  | .bit_2_C => .bitReg 2 .C
  | .bit_2_D => .bitReg 2 .D
  | .bit_2_E => .bitReg 2 .E
  | .bit_2_H => .bitReg 2 .H
  | .bit_2_L => .bitReg 2 .L
  | .bit_2_atHL => .bitAtHL 2
  | .bit_2_A => .bitReg 2 .A
  | .bit_3_B => .bitReg 3 .B
  | .bit_3_C => .bitReg 3 .C
  | .bit_3_D => .bitReg 3 .D
  | .bit_3_E => .bitReg 3 .E
  | .bit_3_H => .bitReg 3 .H
  | .bit_3_L => .bitReg 3 .L
  | .bit_3_atHL => .bitAtHL 3
  | .bit_3_A => .bitReg 3 .A
  | .bit_4_B => .bitReg 4 .B
  | .bit_4_C => .bitReg 4 .C
  | .bit_4_D => .bitReg 4 .D
  | .bit_4_E => .bitReg 4 .E
  | .bit_4_H => .bitReg 4 .H
  | .bit_4_L => .bitReg 4 .L
  | .bit_4_atHL => .bitAtHL 4
  | .bit_4_A => .bitReg 4 .A
  | .bit_5_B => .bitReg 5 .B
  | .bit_5_C => .bitReg 5 .C
  | .bit_5_D => .bitReg 5 .D
  | .bit_5_E => .bitReg 5 .E
  | .bit_5_H => .bitReg 5 .H
  | .bit_5_L => .bitReg 5 .L
  | .bit_5_atHL => .bitAtHL 5
  | .bit_5_A => .bitReg 5 .A
  | .bit_6_B => .bitReg 6 .B
  | .bit_6_C => .bitReg 6 .C
  | .bit_6_D => .bitReg 6 .D
  | .bit_6_E => .bitReg 6 .E
  | .bit_6_H => .bitReg 6 .H
  | .bit_6_L => .bitReg 6 .L
  | .bit_6_atHL => .bitAtHL 6
  | .bit_6_A => .bitReg 6 .A
  | .bit_7_B => .bitReg 7 .B
  | .bit_7_C => .bitReg 7 .C
  | .bit_7_D => .bitReg 7 .D
  | .bit_7_E => .bitReg 7 .E
  | .bit_7_H => .bitReg 7 .H
  | .bit_7_L => .bitReg 7 .L
  | .bit_7_atHL => .bitAtHL 7
  | .bit_7_A => .bitReg 7 .A
  | .res_0_B => .resReg 0 .B
  | .res_0_C => .resReg 0 .C
  | .res_0_D => .resReg 0 .D
  | .res_0_E => .resReg 0 .E
  | .res_0_H => .resReg 0 .H
  | .res_0_L => .resReg 0 .L
  | .res_0_atHL => .resAtHL 0
  | .res_0_A => .resReg 0 .A
  | .res_1_B => .resReg 1 .B
  | .res_1_C => .resReg 1 .C
  | .res_1_D => .resReg 1 .D
  | .res_1_E => .resReg 1 .E
  | .res_1_H => .resReg 1 .H
  | .res_1_L => .resReg 1 .L
  | .res_1_atHL => .resAtHL 1
  | .res_1_A => .resReg 1 .A
  | .res_2_B => .resReg 2 .B
  | .res_2_C => .resReg 2 .C
  | .res_2_D => .resReg 2 .D
  | .res_2_E => .resReg 2 .E
  | .res_2_H => .resReg 2 .H
  | .res_2_L => .resReg 2 .L
  | .res_2_atHL => .resAtHL 2
  | .res_2_A => .resReg 2 .A
  | .res_3_B => .resReg 3 .B
  | .res_3_C => .resReg 3 .C
  | .res_3_D => .resReg 3 .D
  | .res_3_E => .resReg 3 .E
  | .res_3_H => .resReg 3 .H
  | .res_3_L => .resReg 3 .L
  | .res_3_atHL => .resAtHL 3
  | .res_3_A => .resReg 3 .A
  | .res_4_B => .resReg 4 .B
  | .res_4_C => .resReg 4 .C
  | .res_4_D => .resReg 4 .D
  | .res_4_E => .resReg 4 .E
  | .res_4_H => .resReg 4 .H
  | .res_4_L => .resReg 4 .L
  | .res_4_atHL => .resAtHL 4
  | .res_4_A => .resReg 4 .A
  | .res_5_B => .resReg 5 .B
  | .res_5_C => .resReg 5 .C
  | .res_5_D => .resReg 5 .D
  | .res_5_E => .resReg 5 .E
  | .res_5_H => .resReg 5 .H
  | .res_5_L => .resReg 5 .L
  | .res_5_atHL => .resAtHL 5
  | .res_5_A => .resReg 5 .A
  | .res_6_B => .resReg 6 .B
  | .res_6_C => .resReg 6 .C
  | .res_6_D => .resReg 6 .D
  | .res_6_E => .resReg 6 .E
  | .res_6_H => .resReg 6 .H
  | .res_6_L => .resReg 6 .L
  | .res_6_atHL => .resAtHL 6
  | .res_6_A => .resReg 6 .A
  | .res_7_B => .resReg 7 .B
  | .res_7_C => .resReg 7 .C
  | .res_7_D => .resReg 7 .D
  | .res_7_E => .resReg 7 .E
  | .res_7_H => .resReg 7 .H
  | .res_7_L => .resReg 7 .L
  | .res_7_atHL => .resAtHL 7
  | .res_7_A => .resReg 7 .A
  | .set_0_B => .setReg 0 .B
  | .set_0_C => .setReg 0 .C
  | .set_0_D => .setReg 0 .D
  | .set_0_E => .setReg 0 .E
  | .set_0_H => .setReg 0 .H
  | .set_0_L => .setReg 0 .L
  | .set_0_atHL => .setAtHL 0
  | .set_0_A => .setReg 0 .A
  | .set_1_B => .setReg 1 .B
  | .set_1_C => .setReg 1 .C
  | .set_1_D => .setReg 1 .D
  | .set_1_E => .setReg 1 .E
  | .set_1_H => .setReg 1 .H
  | .set_1_L => .setReg 1 .L
  | .set_1_atHL => .setAtHL 1
  | .set_1_A => .setReg 1 .A
  | .set_2_B => .setReg 2 .B
  | .set_2_C => .setReg 2 .C
  | .set_2_D => .setReg 2 .D
  | .set_2_E => .setReg 2 .E
  | .set_2_H => .setReg 2 .H
  | .set_2_L => .setReg 2 .L
  | .set_2_atHL => .setAtHL 2
  | .set_2_A => .setReg 2 .A
  | .set_3_B => .setReg 3 .B
  | .set_3_C => .setReg 3 .C
  | .set_3_D => .setReg 3 .D
  | .set_3_E => .setReg 3 .E
  | .set_3_H => .setReg 3 .H
  | .set_3_L => .setReg 3 .L
  | .set_3_atHL => .setAtHL 3
  | .set_3_A => .setReg 3 .A
  | .set_4_B => .setReg 4 .B
  | .set_4_C => .setReg 4 .C
  | .set_4_D => .setReg 4 .D
  | .set_4_E => .setReg 4 .E
  | .set_4_H => .setReg 4 .H
  | .set_4_L => .setReg 4 .L
  | .set_4_atHL => .setAtHL 4
  | .set_4_A => .setReg 4 .A
  | .set_5_B => .setReg 5 .B
  | .set_5_C => .setReg 5 .C
  | .set_5_D => .setReg 5 .D
  | .set_5_E => .setReg 5 .E
  | .set_5_H => .setReg 5 .H
  | .set_5_L => .setReg 5 .L
  | .set_5_atHL => .setAtHL 5
  | .set_5_A => .setReg 5 .A
  | .set_6_B => .setReg 6 .B
  | .set_6_C => .setReg 6 .C
  | .set_6_D => .setReg 6 .D
  | .set_6_E => .setReg 6 .E
  | .set_6_H => .setReg 6 .H
  | .set_6_L => .setReg 6 .L
  | .set_6_atHL => .setAtHL 6
  | .set_6_A => .setReg 6 .A
  | .set_7_B => .setReg 7 .B
  | .set_7_C => .setReg 7 .C
  | .set_7_D => .setReg 7 .D
  | .set_7_E => .setReg 7 .E
  | .set_7_H => .setReg 7 .H
  | .set_7_L => .setReg 7 .L
  | .set_7_atHL => .setAtHL 7
  | .set_7_A => .setReg 7 .A

end Sys2Proof
end

