-- ==== Sys2Proof/Machine/Operands.lean ====
section
/-! DEFINITION. The operands an instruction names: 8-bit registers (R134), pairs (R31, R135, R136), conditions
(R137), and the flags in F (R32). -/

namespace Sys2Proof.Machine

/-! ## 8-bit registers -/

/-- R134: read an 8-bit register. -/
def State.reg (s : State) (r : Reg8) : Byte :=
  match r with
  | .B => s.regs.b
  | .C => s.regs.c
  | .D => s.regs.d
  | .E => s.regs.e
  | .H => s.regs.h
  | .L => s.regs.l
  | .A => s.regs.a

/-- R134: write an 8-bit register. -/
def State.setReg (s : State) (r : Reg8) (v : Byte) : State :=
  match r with
  | .B => { s with regs := { s.regs with b := v } }
  | .C => { s with regs := { s.regs with c := v } }
  | .D => { s with regs := { s.regs with d := v } }
  | .E => { s with regs := { s.regs with e := v } }
  | .H => { s with regs := { s.regs with h := v } }
  | .L => { s with regs := { s.regs with l := v } }
  | .A => { s with regs := { s.regs with a := v } }

/-! ## The flags -/

/-- R32: every write to F stores `v & 0xF0`. -/
def State.setF (s : State) (v : Byte) : State := { s with regs := { s.regs with f := v &&& 0xF0 } }

/-- R32: Z at F[7]. -/
def State.flagZ (s : State) : Bool := s.regs.f.getLsbD 7

/-- R32: N at F[6]. -/
def State.flagN (s : State) : Bool := s.regs.f.getLsbD 6

/-- R32: H at F[5]. -/
def State.flagH (s : State) : Bool := s.regs.f.getLsbD 5

/-- R32: C at F[4]. -/
def State.flagC (s : State) : Bool := s.regs.f.getLsbD 4

/-- R10: `z<<7 | n<<6 | h<<5 | c<<4`. -/
def packFlags (z n h c : Bool) : Byte :=
  BitVec.ofBool z ++ BitVec.ofBool n ++ BitVec.ofBool h ++ BitVec.ofBool c ++ 0#4

/-- R10: `F <- flags(z, n, h, c)`. A flag left as it was is passed its own value. -/
def State.setFlags (s : State) (z n h c : Bool) : State := s.setF (packFlags z n h c)

/-! ## Register pairs -/

/-- R31: read a pair, or SP. -/
def State.pair (s : State) (p : Pair) : Word :=
  match p with
  | .BC => joinBytes s.regs.b s.regs.c
  | .DE => joinBytes s.regs.d s.regs.e
  | .HL => joinBytes s.regs.h s.regs.l
  | .SP => s.regs.sp
  | .AF => joinBytes s.regs.a s.regs.f

/-- R31: write a pair, or SP; the write of AF masks F (R32). -/
def State.setPair (s : State) (p : Pair) (v : Word) : State :=
  match p with
  | .BC => (s.setReg .B (highByte v)).setReg .C (lowByte v)
  | .DE => (s.setReg .D (highByte v)).setReg .E (lowByte v)
  | .HL => (s.setReg .H (highByte v)).setReg .L (lowByte v)
  | .SP => s.setSp v
  | .AF => (s.setReg .A (highByte v)).setF (lowByte v)

/-- HL, the address of the memory operand (R134). -/
def State.hl (s : State) : Word := s.pair .HL

/-! ## Conditions and addresses -/

/-- R137, R330: whether a condition holds. -/
def State.holds (s : State) (cc : Cond) : Bool :=
  match cc with
  | .NZ => !s.flagZ
  | .Z => s.flagZ
  | .NC => !s.flagC
  | .C => s.flagC

/-- R132: an I/O page address, `0xFF00 + offset`. -/
def ioPage (offset : Byte) : Word := 0xFF00 + zext16 offset

end Sys2Proof.Machine
end

