-- ==== Sys2Proof/Machine/Flags.lean ====
section
/-! DEFINITION. Every result and flag computation of the spec: addition and subtraction (R221, R222), logic
(R223), INC and DEC (R248, R250), DAA (R252), the 16-bit additions (R271, R274), the shifts (R281). -/

namespace Sys2Proof.Machine

/-- A result with the four flags: `(res, z, n, h, c)`. -/
structure AluOut where
  res : Byte
  z : Bool
  n : Bool
  h : Bool
  c : Bool
  deriving DecidableEq, Repr

/-- R221 `ADD8(a, b, cin)`. -/
def add8 (a b : Byte) (cin : Bool) : AluOut :=
  let s := a.toNat + b.toNat + cin.toNat
  let res : Byte := BitVec.ofNat 8 s
  { res := res, z := res == 0, n := false, h := decide (a.toNat % 16 + b.toNat % 16 + cin.toNat > 0x0F), c := decide (s > 0xFF) }

/-- R222 `SUB8(a, b, cin)`. -/
def sub8 (a b : Byte) (cin : Bool) : AluOut :=
  let d : Int := (a.toNat : Int) - b.toNat - cin.toNat
  let res : Byte := BitVec.ofInt 8 d
  { res := res, z := res == 0, n := true, h := decide (a.toNat % 16 < b.toNat % 16 + cin.toNat), c := decide (d < 0) }

/-- R223 `AND8(a, b)`. -/
def and8 (a b : Byte) : AluOut := { res := a &&& b, z := a &&& b == 0, n := false, h := true, c := false }

/-- R223 `XOR8(a, b)`. -/
def xor8 (a b : Byte) : AluOut := { res := a ^^^ b, z := a ^^^ b == 0, n := false, h := false, c := false }

/-- R223 `OR8(a, b)`. -/
def or8 (a b : Byte) : AluOut := { res := a ||| b, z := a ||| b == 0, n := false, h := false, c := false }

/-- R138, R220, R224 to R247: the ALU operation on A and an operand, with the carry flag where it is used. CP
computes as SUB does (R245). -/
def aluOut (op : AluOp) (a b : Byte) (carry : Bool) : AluOut :=
  match op with
  | .add => add8 a b false
  | .adc => add8 a b carry
  | .sub => sub8 a b false
  | .sbc => sub8 a b carry
  | .and => and8 a b
  | .xor => xor8 a b
  | .or => or8 a b
  | .cp => sub8 a b false

/-- R220: do an ALU operation with operand b: A takes the result (but for CP, R245) and F the flags. -/
def State.alu (s : State) (op : AluOp) (b : Byte) : State :=
  let out := aluOut op s.regs.a b s.flagC
  let s' := if op = .cp then s else s.setReg .A out.res
  s'.setFlags out.z out.n out.h out.c

/-- R248: the flags of INC, with C left as it was. -/
def State.incFlags (s : State) (v : Byte) : State :=
  s.setFlags (v + 1 == 0) false (v.toNat % 16 == 0x0F) s.flagC

/-- R250: the flags of DEC, with C left as it was. -/
def State.decFlags (s : State) (v : Byte) : State :=
  s.setFlags (v - 1 == 0) true (v.toNat % 16 == 0x00) s.flagC

/-- R252: the adjusted A and the new C, from A, N, H and C. -/
def daaOut (a : Byte) (n h c : Bool) : Byte × Bool :=
  if n then
    let a := if c then a - 0x60 else a
    let a := if h then a - 0x06 else a
    (a, c)
  else
    let high := c || decide (a.toNat > 0x99)
    let a := if high then a + 0x60 else a
    let a := if h || decide (a.toNat % 16 > 0x09) then a + 0x06 else a
    (a, high)

/-- R271: H and C of `ADD HL,rr`: the carries out of bits 11 and 15. -/
def addHLCarries (hl rr : Word) : Bool × Bool :=
  (decide (hl.toNat % 0x1000 + rr.toNat % 0x1000 > 0x0FFF), decide (hl.toNat + rr.toNat > 0xFFFF))

/-- R204, R274: SP plus a signed displacement. -/
def spPlus (sp : Word) (e8 : Byte) : Word := sp + sext16 e8

/-- R204, R274: H and C of `SP + e8`: the carries out of bits 3 and 7 of the unsigned sum of the low bytes. -/
def spPlusCarries (sp : Word) (e8 : Byte) : Bool × Bool :=
  (decide (sp.toNat % 16 + e8.toNat % 16 > 0x0F), decide (sp.toNat % 256 + e8.toNat > 0xFF))

/-- R281: the result of a rotate or shift. -/
def shiftRes (op : ShiftOp) (v : Byte) (cin : Bool) : Byte :=
  match op with
  | .rlc => v <<< 1 ||| (v >>> 7)
  | .rrc => v >>> 1 ||| (v <<< 7)
  | .rl => v <<< 1 ||| (BitVec.ofBool cin).zeroExtend 8
  | .rr => v >>> 1 ||| ((BitVec.ofBool cin).zeroExtend 8 <<< 7)
  | .sla => v <<< 1
  | .sra => v >>> 1 ||| (v &&& 0x80)
  | .swap => v <<< 4 ||| (v >>> 4)
  | .srl => v >>> 1

/-- R281: the carry out of a rotate or shift. -/
def shiftCarry (op : ShiftOp) (v : Byte) : Bool :=
  match op with
  | .rlc | .rl | .sla => v.getLsbD 7
  | .rrc | .rr | .sra | .srl => v.getLsbD 0
  | .swap => false

end Sys2Proof.Machine
end

