-- ==== Sys2Proof/Machine/Alu16.lean ====
section
/-! DEFINITION. 16-bit arithmetic (43_alu16, R270 to R275).
First the shared operations, one per rule, then one meaning per row of the opcode table. -/

namespace Sys2Proof.Machine

/-- R271: `ADD HL,rr`; Z is left as it was. -/
def addHLPair (rr : Pair) (s : State) : Result :=
  let carries := addHLCarries s.hl (s.pair rr)
  finish 2 ((s.setPair .HL (s.hl + s.pair rr)).setFlags s.flagZ false carries.1 carries.2)

/-- R272: `rr <- (rr + 1) mod 2^16`. -/
def incPair (rr : Pair) (s : State) : Result := finish 2 (s.setPair rr (s.pair rr + 1))

/-- R273: `rr <- (rr - 1) mod 2^16`. -/
def decPair (rr : Pair) (s : State) : Result := finish 2 (s.setPair rr (s.pair rr - 1))

/-- R274: `ADD SP,e8`. -/
def addSPe8 (e8 : Byte) (s : State) : Result :=
  let carries := spPlusCarries s.regs.sp e8
  finish 4 ((s.setSp (spPlus s.regs.sp e8)).setFlags false false carries.1 carries.2)

/-! ## One meaning per row -/

/-- R272 `INC BC`. -/
def execInc_BC (s : State) : Result := incPair .BC s

/-- R271 `ADD HL,BC`. -/
def execAdd_HL_BC (s : State) : Result := addHLPair .BC s

/-- R273 `DEC BC`. -/
def execDec_BC (s : State) : Result := decPair .BC s

/-- R272 `INC DE`. -/
def execInc_DE (s : State) : Result := incPair .DE s

/-- R271 `ADD HL,DE`. -/
def execAdd_HL_DE (s : State) : Result := addHLPair .DE s

/-- R273 `DEC DE`. -/
def execDec_DE (s : State) : Result := decPair .DE s

/-- R272 `INC HL`. -/
def execInc_HL (s : State) : Result := incPair .HL s

/-- R271 `ADD HL,HL`. -/
def execAdd_HL_HL (s : State) : Result := addHLPair .HL s

/-- R273 `DEC HL`. -/
def execDec_HL (s : State) : Result := decPair .HL s

/-- R272 `INC SP`. -/
def execInc_SP (s : State) : Result := incPair .SP s

/-- R271 `ADD HL,SP`. -/
def execAdd_HL_SP (s : State) : Result := addHLPair .SP s

/-- R273 `DEC SP`. -/
def execDec_SP (s : State) : Result := decPair .SP s

/-- R274 `ADD SP,e8`. -/
def execAdd_SP_e8 (e8 : Byte) (s : State) : Result := addSPe8 e8 s

end Sys2Proof.Machine
end

