-- ==== Sys2Proof/Machine/Alu8.lean ====
section
/-! DEFINITION. 8-bit arithmetic and logic (42_alu8, R220 to R256).
First the shared operations, one per rule, then one meaning per row of the opcode table. -/

namespace Sys2Proof.Machine

/-- R220 `op r`. -/
def aluReg (op : AluOp) (r : Reg8) (s : State) : Result := finish 1 (s.alu op (s.reg r))

/-- R220 `op (HL)`. -/
def aluAtHL (op : AluOp) (s : State) : Result :=
  perform 2 do
    let v ← s.readByte s.hl
    return s.alu op v

/-- R220 `op n8`. -/
def aluImm (op : AluOp) (n8 : Byte) (s : State) : Result := finish 2 (s.alu op n8)

/-- R248: INC of a register. -/
def incReg (r : Reg8) (s : State) : Result := finish 1 ((s.setReg r (s.reg r + 1)).incFlags (s.reg r))

/-- R249: `v <- MemRead(HL, 1); MemWrite(HL, 1, v + 1)`, then the flags. -/
def incAtHL (s : State) : Result :=
  perform 3 do
    let v ← s.readByte s.hl
    let s ← s.writeByte s.hl (v + 1)
    return s.incFlags v

/-- R250: DEC of a register. -/
def decReg (r : Reg8) (s : State) : Result := finish 1 ((s.setReg r (s.reg r - 1)).decFlags (s.reg r))

/-- R251: `v <- MemRead(HL, 1); MemWrite(HL, 1, v - 1)`, then the flags. -/
def decAtHL (s : State) : Result :=
  perform 3 do
    let v ← s.readByte s.hl
    let s ← s.writeByte s.hl (v - 1)
    return s.decFlags v

/-- R252: DAA. -/
def daa (s : State) : Result :=
  let out := daaOut s.regs.a s.flagN s.flagH s.flagC
  finish 1 ((s.setReg .A out.1).setFlags (out.1 == 0) s.flagN false out.2)

/-- R253: CPL. -/
def cpl (s : State) : Result := finish 1 ((s.setReg .A (~~~s.regs.a)).setFlags s.flagZ true true s.flagC)

/-- R254: SCF. -/
def scf (s : State) : Result := finish 1 (s.setFlags s.flagZ false false true)

/-- R255: CCF. -/
def ccf (s : State) : Result := finish 1 (s.setFlags s.flagZ false false (!s.flagC))

/-! ## One meaning per row -/

/-- R248 `INC B`. -/
def execInc_B (s : State) : Result := incReg .B s

/-- R250 `DEC B`. -/
def execDec_B (s : State) : Result := decReg .B s

/-- R248 `INC C`. -/
def execInc_C (s : State) : Result := incReg .C s

/-- R250 `DEC C`. -/
def execDec_C (s : State) : Result := decReg .C s

/-- R248 `INC D`. -/
def execInc_D (s : State) : Result := incReg .D s

/-- R250 `DEC D`. -/
def execDec_D (s : State) : Result := decReg .D s

/-- R248 `INC E`. -/
def execInc_E (s : State) : Result := incReg .E s

/-- R250 `DEC E`. -/
def execDec_E (s : State) : Result := decReg .E s

/-- R248 `INC H`. -/
def execInc_H (s : State) : Result := incReg .H s

/-- R250 `DEC H`. -/
def execDec_H (s : State) : Result := decReg .H s

/-- R252 `DAA`. -/
def execDaa (s : State) : Result := daa s

/-- R248 `INC L`. -/
def execInc_L (s : State) : Result := incReg .L s

/-- R250 `DEC L`. -/
def execDec_L (s : State) : Result := decReg .L s

/-- R253 `CPL`. -/
def execCpl (s : State) : Result := cpl s

/-- R249 `INC (HL)`. -/
def execInc_atHL (s : State) : Result := incAtHL s

/-- R251 `DEC (HL)`. -/
def execDec_atHL (s : State) : Result := decAtHL s

/-- R254 `SCF`. -/
def execScf (s : State) : Result := scf s

/-- R248 `INC A`. -/
def execInc_A (s : State) : Result := incReg .A s

/-- R250 `DEC A`. -/
def execDec_A (s : State) : Result := decReg .A s

/-- R255 `CCF`. -/
def execCcf (s : State) : Result := ccf s

/-- R224 `ADD A,B`. -/
def execAdd_A_B (s : State) : Result := aluReg .add .B s

/-- R224 `ADD A,C`. -/
def execAdd_A_C (s : State) : Result := aluReg .add .C s

/-- R224 `ADD A,D`. -/
def execAdd_A_D (s : State) : Result := aluReg .add .D s

/-- R224 `ADD A,E`. -/
def execAdd_A_E (s : State) : Result := aluReg .add .E s

/-- R224 `ADD A,H`. -/
def execAdd_A_H (s : State) : Result := aluReg .add .H s

/-- R224 `ADD A,L`. -/
def execAdd_A_L (s : State) : Result := aluReg .add .L s

/-- R225 `ADD A,(HL)`. -/
def execAdd_A_atHL (s : State) : Result := aluAtHL .add s

/-- R224 `ADD A,A`. -/
def execAdd_A_A (s : State) : Result := aluReg .add .A s

/-- R227 `ADC A,B`. -/
def execAdc_A_B (s : State) : Result := aluReg .adc .B s

/-- R227 `ADC A,C`. -/
def execAdc_A_C (s : State) : Result := aluReg .adc .C s

/-- R227 `ADC A,D`. -/
def execAdc_A_D (s : State) : Result := aluReg .adc .D s

/-- R227 `ADC A,E`. -/
def execAdc_A_E (s : State) : Result := aluReg .adc .E s

/-- R227 `ADC A,H`. -/
def execAdc_A_H (s : State) : Result := aluReg .adc .H s

/-- R227 `ADC A,L`. -/
def execAdc_A_L (s : State) : Result := aluReg .adc .L s

/-- R228 `ADC A,(HL)`. -/
def execAdc_A_atHL (s : State) : Result := aluAtHL .adc s

/-- R227 `ADC A,A`. -/
def execAdc_A_A (s : State) : Result := aluReg .adc .A s

/-- R230 `SUB B`. -/
def execSub_B (s : State) : Result := aluReg .sub .B s

/-- R230 `SUB C`. -/
def execSub_C (s : State) : Result := aluReg .sub .C s

/-- R230 `SUB D`. -/
def execSub_D (s : State) : Result := aluReg .sub .D s

/-- R230 `SUB E`. -/
def execSub_E (s : State) : Result := aluReg .sub .E s

/-- R230 `SUB H`. -/
def execSub_H (s : State) : Result := aluReg .sub .H s

/-- R230 `SUB L`. -/
def execSub_L (s : State) : Result := aluReg .sub .L s

/-- R231 `SUB (HL)`. -/
def execSub_atHL (s : State) : Result := aluAtHL .sub s

/-- R230 `SUB A`. -/
def execSub_A (s : State) : Result := aluReg .sub .A s

/-- R233 `SBC A,B`. -/
def execSbc_A_B (s : State) : Result := aluReg .sbc .B s

/-- R233 `SBC A,C`. -/
def execSbc_A_C (s : State) : Result := aluReg .sbc .C s

/-- R233 `SBC A,D`. -/
def execSbc_A_D (s : State) : Result := aluReg .sbc .D s

/-- R233 `SBC A,E`. -/
def execSbc_A_E (s : State) : Result := aluReg .sbc .E s

/-- R233 `SBC A,H`. -/
def execSbc_A_H (s : State) : Result := aluReg .sbc .H s

/-- R233 `SBC A,L`. -/
def execSbc_A_L (s : State) : Result := aluReg .sbc .L s

/-- R234 `SBC A,(HL)`. -/
def execSbc_A_atHL (s : State) : Result := aluAtHL .sbc s

/-- R233 `SBC A,A`. -/
def execSbc_A_A (s : State) : Result := aluReg .sbc .A s

/-- R236 `AND B`. -/
def execAnd_B (s : State) : Result := aluReg .and .B s

/-- R236 `AND C`. -/
def execAnd_C (s : State) : Result := aluReg .and .C s

/-- R236 `AND D`. -/
def execAnd_D (s : State) : Result := aluReg .and .D s

/-- R236 `AND E`. -/
def execAnd_E (s : State) : Result := aluReg .and .E s

/-- R236 `AND H`. -/
def execAnd_H (s : State) : Result := aluReg .and .H s

/-- R236 `AND L`. -/
def execAnd_L (s : State) : Result := aluReg .and .L s

/-- R237 `AND (HL)`. -/
def execAnd_atHL (s : State) : Result := aluAtHL .and s

/-- R236 `AND A`. -/
def execAnd_A (s : State) : Result := aluReg .and .A s

/-- R239 `XOR B`. -/
def execXor_B (s : State) : Result := aluReg .xor .B s

/-- R239 `XOR C`. -/
def execXor_C (s : State) : Result := aluReg .xor .C s

/-- R239 `XOR D`. -/
def execXor_D (s : State) : Result := aluReg .xor .D s

/-- R239 `XOR E`. -/
def execXor_E (s : State) : Result := aluReg .xor .E s

/-- R239 `XOR H`. -/
def execXor_H (s : State) : Result := aluReg .xor .H s

/-- R239 `XOR L`. -/
def execXor_L (s : State) : Result := aluReg .xor .L s

/-- R240 `XOR (HL)`. -/
def execXor_atHL (s : State) : Result := aluAtHL .xor s

/-- R239 `XOR A`. -/
def execXor_A (s : State) : Result := aluReg .xor .A s

/-- R242 `OR B`. -/
def execOr_B (s : State) : Result := aluReg .or .B s

/-- R242 `OR C`. -/
def execOr_C (s : State) : Result := aluReg .or .C s

/-- R242 `OR D`. -/
def execOr_D (s : State) : Result := aluReg .or .D s

/-- R242 `OR E`. -/
def execOr_E (s : State) : Result := aluReg .or .E s

/-- R242 `OR H`. -/
def execOr_H (s : State) : Result := aluReg .or .H s

/-- R242 `OR L`. -/
def execOr_L (s : State) : Result := aluReg .or .L s

/-- R243 `OR (HL)`. -/
def execOr_atHL (s : State) : Result := aluAtHL .or s

/-- R242 `OR A`. -/
def execOr_A (s : State) : Result := aluReg .or .A s

/-- R245 `CP B`. -/
def execCp_B (s : State) : Result := aluReg .cp .B s

/-- R245 `CP C`. -/
def execCp_C (s : State) : Result := aluReg .cp .C s

/-- R245 `CP D`. -/
def execCp_D (s : State) : Result := aluReg .cp .D s

/-- R245 `CP E`. -/
def execCp_E (s : State) : Result := aluReg .cp .E s

/-- R245 `CP H`. -/
def execCp_H (s : State) : Result := aluReg .cp .H s

/-- R245 `CP L`. -/
def execCp_L (s : State) : Result := aluReg .cp .L s

/-- R246 `CP (HL)`. -/
def execCp_atHL (s : State) : Result := aluAtHL .cp s

/-- R245 `CP A`. -/
def execCp_A (s : State) : Result := aluReg .cp .A s

/-- R226 `ADD A,n8`. -/
def execAdd_A_n8 (n8 : Byte) (s : State) : Result := aluImm .add n8 s

/-- R229 `ADC A,n8`. -/
def execAdc_A_n8 (n8 : Byte) (s : State) : Result := aluImm .adc n8 s

/-- R232 `SUB n8`. -/
def execSub_n8 (n8 : Byte) (s : State) : Result := aluImm .sub n8 s

/-- R235 `SBC A,n8`. -/
def execSbc_A_n8 (n8 : Byte) (s : State) : Result := aluImm .sbc n8 s

/-- R238 `AND n8`. -/
def execAnd_n8 (n8 : Byte) (s : State) : Result := aluImm .and n8 s

/-- R241 `XOR n8`. -/
def execXor_n8 (n8 : Byte) (s : State) : Result := aluImm .xor n8 s

/-- R244 `OR n8`. -/
def execOr_n8 (n8 : Byte) (s : State) : Result := aluImm .or n8 s

/-- R247 `CP n8`. -/
def execCp_n8 (n8 : Byte) (s : State) : Result := aluImm .cp n8 s

end Sys2Proof.Machine
end

