-- ==== Sys2Proof/Machine/Bit.lean ====
section
/-! DEFINITION. Bit test, reset and set (44_rotate_shift_bit, R302 to R307).
First the shared operations, one per rule, then one meaning per row of the opcode table. -/

namespace Sys2Proof.Machine

/-- R302, R303: `F <- flags(v[b] == 0, 0, 1, -)`. -/
def State.bitFlags (s : State) (b : Fin 8) (v : Byte) : State := s.setFlags (!testBit v b) false true s.flagC

/-- R302: test bit b of a register. -/
def bitReg (b : Fin 8) (r : Reg8) (s : State) : Result := finish 2 (s.bitFlags b (s.reg r))

/-- R303: test bit b of the byte at HL. -/
def bitAtHL (b : Fin 8) (s : State) : Result :=
  perform 3 do
    let v ← s.readByte s.hl
    return s.bitFlags b v

/-- R304: clear bit b of a register. -/
def resReg (b : Fin 8) (r : Reg8) (s : State) : Result := finish 2 (s.setReg r (clearBit (s.reg r) b))

/-- R305: clear bit b of the byte at HL. -/
def resAtHL (b : Fin 8) (s : State) : Result :=
  perform 4 do
    let v ← s.readByte s.hl
    s.writeByte s.hl (clearBit v b)

/-- R306: set bit b of a register. -/
def setBitReg (b : Fin 8) (r : Reg8) (s : State) : Result := finish 2 (s.setReg r (setBit (s.reg r) b))

/-- R307: set bit b of the byte at HL. -/
def setBitAtHL (b : Fin 8) (s : State) : Result :=
  perform 4 do
    let v ← s.readByte s.hl
    s.writeByte s.hl (setBit v b)

/-! ## One meaning per row -/

/-- R302 `BIT 0,B`. -/
def execBit_0_B (s : State) : Result := bitReg 0 .B s

/-- R302 `BIT 0,C`. -/
def execBit_0_C (s : State) : Result := bitReg 0 .C s

/-- R302 `BIT 0,D`. -/
def execBit_0_D (s : State) : Result := bitReg 0 .D s

/-- R302 `BIT 0,E`. -/
def execBit_0_E (s : State) : Result := bitReg 0 .E s

/-- R302 `BIT 0,H`. -/
def execBit_0_H (s : State) : Result := bitReg 0 .H s

/-- R302 `BIT 0,L`. -/
def execBit_0_L (s : State) : Result := bitReg 0 .L s

/-- R303 `BIT 0,(HL)`. -/
def execBit_0_atHL (s : State) : Result := bitAtHL 0 s

/-- R302 `BIT 0,A`. -/
def execBit_0_A (s : State) : Result := bitReg 0 .A s

/-- R302 `BIT 1,B`. -/
def execBit_1_B (s : State) : Result := bitReg 1 .B s

/-- R302 `BIT 1,C`. -/
def execBit_1_C (s : State) : Result := bitReg 1 .C s

/-- R302 `BIT 1,D`. -/
def execBit_1_D (s : State) : Result := bitReg 1 .D s

/-- R302 `BIT 1,E`. -/
def execBit_1_E (s : State) : Result := bitReg 1 .E s

/-- R302 `BIT 1,H`. -/
def execBit_1_H (s : State) : Result := bitReg 1 .H s

/-- R302 `BIT 1,L`. -/
def execBit_1_L (s : State) : Result := bitReg 1 .L s

/-- R303 `BIT 1,(HL)`. -/
def execBit_1_atHL (s : State) : Result := bitAtHL 1 s

/-- R302 `BIT 1,A`. -/
def execBit_1_A (s : State) : Result := bitReg 1 .A s

/-- R302 `BIT 2,B`. -/
def execBit_2_B (s : State) : Result := bitReg 2 .B s

/-- R302 `BIT 2,C`. -/
def execBit_2_C (s : State) : Result := bitReg 2 .C s

/-- R302 `BIT 2,D`. -/
def execBit_2_D (s : State) : Result := bitReg 2 .D s

/-- R302 `BIT 2,E`. -/
def execBit_2_E (s : State) : Result := bitReg 2 .E s

/-- R302 `BIT 2,H`. -/
def execBit_2_H (s : State) : Result := bitReg 2 .H s

/-- R302 `BIT 2,L`. -/
def execBit_2_L (s : State) : Result := bitReg 2 .L s

/-- R303 `BIT 2,(HL)`. -/
def execBit_2_atHL (s : State) : Result := bitAtHL 2 s

/-- R302 `BIT 2,A`. -/
def execBit_2_A (s : State) : Result := bitReg 2 .A s

/-- R302 `BIT 3,B`. -/
def execBit_3_B (s : State) : Result := bitReg 3 .B s

/-- R302 `BIT 3,C`. -/
def execBit_3_C (s : State) : Result := bitReg 3 .C s

/-- R302 `BIT 3,D`. -/
def execBit_3_D (s : State) : Result := bitReg 3 .D s

/-- R302 `BIT 3,E`. -/
def execBit_3_E (s : State) : Result := bitReg 3 .E s

/-- R302 `BIT 3,H`. -/
def execBit_3_H (s : State) : Result := bitReg 3 .H s

/-- R302 `BIT 3,L`. -/
def execBit_3_L (s : State) : Result := bitReg 3 .L s

/-- R303 `BIT 3,(HL)`. -/
def execBit_3_atHL (s : State) : Result := bitAtHL 3 s

/-- R302 `BIT 3,A`. -/
def execBit_3_A (s : State) : Result := bitReg 3 .A s

/-- R302 `BIT 4,B`. -/
def execBit_4_B (s : State) : Result := bitReg 4 .B s

/-- R302 `BIT 4,C`. -/
def execBit_4_C (s : State) : Result := bitReg 4 .C s

/-- R302 `BIT 4,D`. -/
def execBit_4_D (s : State) : Result := bitReg 4 .D s

/-- R302 `BIT 4,E`. -/
def execBit_4_E (s : State) : Result := bitReg 4 .E s

/-- R302 `BIT 4,H`. -/
def execBit_4_H (s : State) : Result := bitReg 4 .H s

/-- R302 `BIT 4,L`. -/
def execBit_4_L (s : State) : Result := bitReg 4 .L s

/-- R303 `BIT 4,(HL)`. -/
def execBit_4_atHL (s : State) : Result := bitAtHL 4 s

/-- R302 `BIT 4,A`. -/
def execBit_4_A (s : State) : Result := bitReg 4 .A s

/-- R302 `BIT 5,B`. -/
def execBit_5_B (s : State) : Result := bitReg 5 .B s

/-- R302 `BIT 5,C`. -/
def execBit_5_C (s : State) : Result := bitReg 5 .C s

/-- R302 `BIT 5,D`. -/
def execBit_5_D (s : State) : Result := bitReg 5 .D s

/-- R302 `BIT 5,E`. -/
def execBit_5_E (s : State) : Result := bitReg 5 .E s

/-- R302 `BIT 5,H`. -/
def execBit_5_H (s : State) : Result := bitReg 5 .H s

/-- R302 `BIT 5,L`. -/
def execBit_5_L (s : State) : Result := bitReg 5 .L s

/-- R303 `BIT 5,(HL)`. -/
def execBit_5_atHL (s : State) : Result := bitAtHL 5 s

/-- R302 `BIT 5,A`. -/
def execBit_5_A (s : State) : Result := bitReg 5 .A s

/-- R302 `BIT 6,B`. -/
def execBit_6_B (s : State) : Result := bitReg 6 .B s

/-- R302 `BIT 6,C`. -/
def execBit_6_C (s : State) : Result := bitReg 6 .C s

/-- R302 `BIT 6,D`. -/
def execBit_6_D (s : State) : Result := bitReg 6 .D s

/-- R302 `BIT 6,E`. -/
def execBit_6_E (s : State) : Result := bitReg 6 .E s

/-- R302 `BIT 6,H`. -/
def execBit_6_H (s : State) : Result := bitReg 6 .H s

/-- R302 `BIT 6,L`. -/
def execBit_6_L (s : State) : Result := bitReg 6 .L s

/-- R303 `BIT 6,(HL)`. -/
def execBit_6_atHL (s : State) : Result := bitAtHL 6 s

/-- R302 `BIT 6,A`. -/
def execBit_6_A (s : State) : Result := bitReg 6 .A s

/-- R302 `BIT 7,B`. -/
def execBit_7_B (s : State) : Result := bitReg 7 .B s

/-- R302 `BIT 7,C`. -/
def execBit_7_C (s : State) : Result := bitReg 7 .C s

/-- R302 `BIT 7,D`. -/
def execBit_7_D (s : State) : Result := bitReg 7 .D s

/-- R302 `BIT 7,E`. -/
def execBit_7_E (s : State) : Result := bitReg 7 .E s

/-- R302 `BIT 7,H`. -/
def execBit_7_H (s : State) : Result := bitReg 7 .H s

/-- R302 `BIT 7,L`. -/
def execBit_7_L (s : State) : Result := bitReg 7 .L s

/-- R303 `BIT 7,(HL)`. -/
def execBit_7_atHL (s : State) : Result := bitAtHL 7 s

/-- R302 `BIT 7,A`. -/
def execBit_7_A (s : State) : Result := bitReg 7 .A s

/-- R304 `RES 0,B`. -/
def execRes_0_B (s : State) : Result := resReg 0 .B s

/-- R304 `RES 0,C`. -/
def execRes_0_C (s : State) : Result := resReg 0 .C s

/-- R304 `RES 0,D`. -/
def execRes_0_D (s : State) : Result := resReg 0 .D s

/-- R304 `RES 0,E`. -/
def execRes_0_E (s : State) : Result := resReg 0 .E s

/-- R304 `RES 0,H`. -/
def execRes_0_H (s : State) : Result := resReg 0 .H s

/-- R304 `RES 0,L`. -/
def execRes_0_L (s : State) : Result := resReg 0 .L s

/-- R305 `RES 0,(HL)`. -/
def execRes_0_atHL (s : State) : Result := resAtHL 0 s

/-- R304 `RES 0,A`. -/
def execRes_0_A (s : State) : Result := resReg 0 .A s

/-- R304 `RES 1,B`. -/
def execRes_1_B (s : State) : Result := resReg 1 .B s

/-- R304 `RES 1,C`. -/
def execRes_1_C (s : State) : Result := resReg 1 .C s

/-- R304 `RES 1,D`. -/
def execRes_1_D (s : State) : Result := resReg 1 .D s

/-- R304 `RES 1,E`. -/
def execRes_1_E (s : State) : Result := resReg 1 .E s

/-- R304 `RES 1,H`. -/
def execRes_1_H (s : State) : Result := resReg 1 .H s

/-- R304 `RES 1,L`. -/
def execRes_1_L (s : State) : Result := resReg 1 .L s

/-- R305 `RES 1,(HL)`. -/
def execRes_1_atHL (s : State) : Result := resAtHL 1 s

/-- R304 `RES 1,A`. -/
def execRes_1_A (s : State) : Result := resReg 1 .A s

/-- R304 `RES 2,B`. -/
def execRes_2_B (s : State) : Result := resReg 2 .B s

/-- R304 `RES 2,C`. -/
def execRes_2_C (s : State) : Result := resReg 2 .C s

/-- R304 `RES 2,D`. -/
def execRes_2_D (s : State) : Result := resReg 2 .D s

/-- R304 `RES 2,E`. -/
def execRes_2_E (s : State) : Result := resReg 2 .E s

/-- R304 `RES 2,H`. -/
def execRes_2_H (s : State) : Result := resReg 2 .H s

/-- R304 `RES 2,L`. -/
def execRes_2_L (s : State) : Result := resReg 2 .L s

/-- R305 `RES 2,(HL)`. -/
def execRes_2_atHL (s : State) : Result := resAtHL 2 s

/-- R304 `RES 2,A`. -/
def execRes_2_A (s : State) : Result := resReg 2 .A s

/-- R304 `RES 3,B`. -/
def execRes_3_B (s : State) : Result := resReg 3 .B s

/-- R304 `RES 3,C`. -/
def execRes_3_C (s : State) : Result := resReg 3 .C s

/-- R304 `RES 3,D`. -/
def execRes_3_D (s : State) : Result := resReg 3 .D s

/-- R304 `RES 3,E`. -/
def execRes_3_E (s : State) : Result := resReg 3 .E s

/-- R304 `RES 3,H`. -/
def execRes_3_H (s : State) : Result := resReg 3 .H s

/-- R304 `RES 3,L`. -/
def execRes_3_L (s : State) : Result := resReg 3 .L s

/-- R305 `RES 3,(HL)`. -/
def execRes_3_atHL (s : State) : Result := resAtHL 3 s

/-- R304 `RES 3,A`. -/
def execRes_3_A (s : State) : Result := resReg 3 .A s

/-- R304 `RES 4,B`. -/
def execRes_4_B (s : State) : Result := resReg 4 .B s

/-- R304 `RES 4,C`. -/
def execRes_4_C (s : State) : Result := resReg 4 .C s

/-- R304 `RES 4,D`. -/
def execRes_4_D (s : State) : Result := resReg 4 .D s

/-- R304 `RES 4,E`. -/
def execRes_4_E (s : State) : Result := resReg 4 .E s

/-- R304 `RES 4,H`. -/
def execRes_4_H (s : State) : Result := resReg 4 .H s

/-- R304 `RES 4,L`. -/
def execRes_4_L (s : State) : Result := resReg 4 .L s

/-- R305 `RES 4,(HL)`. -/
def execRes_4_atHL (s : State) : Result := resAtHL 4 s

/-- R304 `RES 4,A`. -/
def execRes_4_A (s : State) : Result := resReg 4 .A s

/-- R304 `RES 5,B`. -/
def execRes_5_B (s : State) : Result := resReg 5 .B s

/-- R304 `RES 5,C`. -/
def execRes_5_C (s : State) : Result := resReg 5 .C s

/-- R304 `RES 5,D`. -/
def execRes_5_D (s : State) : Result := resReg 5 .D s

/-- R304 `RES 5,E`. -/
def execRes_5_E (s : State) : Result := resReg 5 .E s

/-- R304 `RES 5,H`. -/
def execRes_5_H (s : State) : Result := resReg 5 .H s

/-- R304 `RES 5,L`. -/
def execRes_5_L (s : State) : Result := resReg 5 .L s

/-- R305 `RES 5,(HL)`. -/
def execRes_5_atHL (s : State) : Result := resAtHL 5 s

/-- R304 `RES 5,A`. -/
def execRes_5_A (s : State) : Result := resReg 5 .A s

/-- R304 `RES 6,B`. -/
def execRes_6_B (s : State) : Result := resReg 6 .B s

/-- R304 `RES 6,C`. -/
def execRes_6_C (s : State) : Result := resReg 6 .C s

/-- R304 `RES 6,D`. -/
def execRes_6_D (s : State) : Result := resReg 6 .D s

/-- R304 `RES 6,E`. -/
def execRes_6_E (s : State) : Result := resReg 6 .E s

/-- R304 `RES 6,H`. -/
def execRes_6_H (s : State) : Result := resReg 6 .H s

/-- R304 `RES 6,L`. -/
def execRes_6_L (s : State) : Result := resReg 6 .L s

/-- R305 `RES 6,(HL)`. -/
def execRes_6_atHL (s : State) : Result := resAtHL 6 s

/-- R304 `RES 6,A`. -/
def execRes_6_A (s : State) : Result := resReg 6 .A s

/-- R304 `RES 7,B`. -/
def execRes_7_B (s : State) : Result := resReg 7 .B s

/-- R304 `RES 7,C`. -/
def execRes_7_C (s : State) : Result := resReg 7 .C s

/-- R304 `RES 7,D`. -/
def execRes_7_D (s : State) : Result := resReg 7 .D s

/-- R304 `RES 7,E`. -/
def execRes_7_E (s : State) : Result := resReg 7 .E s

/-- R304 `RES 7,H`. -/
def execRes_7_H (s : State) : Result := resReg 7 .H s

/-- R304 `RES 7,L`. -/
def execRes_7_L (s : State) : Result := resReg 7 .L s

/-- R305 `RES 7,(HL)`. -/
def execRes_7_atHL (s : State) : Result := resAtHL 7 s

/-- R304 `RES 7,A`. -/
def execRes_7_A (s : State) : Result := resReg 7 .A s

/-- R306 `SET 0,B`. -/
def execSet_0_B (s : State) : Result := setBitReg 0 .B s

/-- R306 `SET 0,C`. -/
def execSet_0_C (s : State) : Result := setBitReg 0 .C s

/-- R306 `SET 0,D`. -/
def execSet_0_D (s : State) : Result := setBitReg 0 .D s

/-- R306 `SET 0,E`. -/
def execSet_0_E (s : State) : Result := setBitReg 0 .E s

/-- R306 `SET 0,H`. -/
def execSet_0_H (s : State) : Result := setBitReg 0 .H s

/-- R306 `SET 0,L`. -/
def execSet_0_L (s : State) : Result := setBitReg 0 .L s

/-- R307 `SET 0,(HL)`. -/
def execSet_0_atHL (s : State) : Result := setBitAtHL 0 s

/-- R306 `SET 0,A`. -/
def execSet_0_A (s : State) : Result := setBitReg 0 .A s

/-- R306 `SET 1,B`. -/
def execSet_1_B (s : State) : Result := setBitReg 1 .B s

/-- R306 `SET 1,C`. -/
def execSet_1_C (s : State) : Result := setBitReg 1 .C s

/-- R306 `SET 1,D`. -/
def execSet_1_D (s : State) : Result := setBitReg 1 .D s

/-- R306 `SET 1,E`. -/
def execSet_1_E (s : State) : Result := setBitReg 1 .E s

/-- R306 `SET 1,H`. -/
def execSet_1_H (s : State) : Result := setBitReg 1 .H s

/-- R306 `SET 1,L`. -/
def execSet_1_L (s : State) : Result := setBitReg 1 .L s

/-- R307 `SET 1,(HL)`. -/
def execSet_1_atHL (s : State) : Result := setBitAtHL 1 s

/-- R306 `SET 1,A`. -/
def execSet_1_A (s : State) : Result := setBitReg 1 .A s

/-- R306 `SET 2,B`. -/
def execSet_2_B (s : State) : Result := setBitReg 2 .B s

/-- R306 `SET 2,C`. -/
def execSet_2_C (s : State) : Result := setBitReg 2 .C s

/-- R306 `SET 2,D`. -/
def execSet_2_D (s : State) : Result := setBitReg 2 .D s

/-- R306 `SET 2,E`. -/
def execSet_2_E (s : State) : Result := setBitReg 2 .E s

/-- R306 `SET 2,H`. -/
def execSet_2_H (s : State) : Result := setBitReg 2 .H s

/-- R306 `SET 2,L`. -/
def execSet_2_L (s : State) : Result := setBitReg 2 .L s

/-- R307 `SET 2,(HL)`. -/
def execSet_2_atHL (s : State) : Result := setBitAtHL 2 s

/-- R306 `SET 2,A`. -/
def execSet_2_A (s : State) : Result := setBitReg 2 .A s

/-- R306 `SET 3,B`. -/
def execSet_3_B (s : State) : Result := setBitReg 3 .B s

/-- R306 `SET 3,C`. -/
def execSet_3_C (s : State) : Result := setBitReg 3 .C s

/-- R306 `SET 3,D`. -/
def execSet_3_D (s : State) : Result := setBitReg 3 .D s

/-- R306 `SET 3,E`. -/
def execSet_3_E (s : State) : Result := setBitReg 3 .E s

/-- R306 `SET 3,H`. -/
def execSet_3_H (s : State) : Result := setBitReg 3 .H s

/-- R306 `SET 3,L`. -/
def execSet_3_L (s : State) : Result := setBitReg 3 .L s

/-- R307 `SET 3,(HL)`. -/
def execSet_3_atHL (s : State) : Result := setBitAtHL 3 s

/-- R306 `SET 3,A`. -/
def execSet_3_A (s : State) : Result := setBitReg 3 .A s

/-- R306 `SET 4,B`. -/
def execSet_4_B (s : State) : Result := setBitReg 4 .B s

/-- R306 `SET 4,C`. -/
def execSet_4_C (s : State) : Result := setBitReg 4 .C s

/-- R306 `SET 4,D`. -/
def execSet_4_D (s : State) : Result := setBitReg 4 .D s

/-- R306 `SET 4,E`. -/
def execSet_4_E (s : State) : Result := setBitReg 4 .E s

/-- R306 `SET 4,H`. -/
def execSet_4_H (s : State) : Result := setBitReg 4 .H s

/-- R306 `SET 4,L`. -/
def execSet_4_L (s : State) : Result := setBitReg 4 .L s

/-- R307 `SET 4,(HL)`. -/
def execSet_4_atHL (s : State) : Result := setBitAtHL 4 s

/-- R306 `SET 4,A`. -/
def execSet_4_A (s : State) : Result := setBitReg 4 .A s

/-- R306 `SET 5,B`. -/
def execSet_5_B (s : State) : Result := setBitReg 5 .B s

/-- R306 `SET 5,C`. -/
def execSet_5_C (s : State) : Result := setBitReg 5 .C s

/-- R306 `SET 5,D`. -/
def execSet_5_D (s : State) : Result := setBitReg 5 .D s

/-- R306 `SET 5,E`. -/
def execSet_5_E (s : State) : Result := setBitReg 5 .E s

/-- R306 `SET 5,H`. -/
def execSet_5_H (s : State) : Result := setBitReg 5 .H s

/-- R306 `SET 5,L`. -/
def execSet_5_L (s : State) : Result := setBitReg 5 .L s

/-- R307 `SET 5,(HL)`. -/
def execSet_5_atHL (s : State) : Result := setBitAtHL 5 s

/-- R306 `SET 5,A`. -/
def execSet_5_A (s : State) : Result := setBitReg 5 .A s

/-- R306 `SET 6,B`. -/
def execSet_6_B (s : State) : Result := setBitReg 6 .B s

/-- R306 `SET 6,C`. -/
def execSet_6_C (s : State) : Result := setBitReg 6 .C s

/-- R306 `SET 6,D`. -/
def execSet_6_D (s : State) : Result := setBitReg 6 .D s

/-- R306 `SET 6,E`. -/
def execSet_6_E (s : State) : Result := setBitReg 6 .E s

/-- R306 `SET 6,H`. -/
def execSet_6_H (s : State) : Result := setBitReg 6 .H s

/-- R306 `SET 6,L`. -/
def execSet_6_L (s : State) : Result := setBitReg 6 .L s

/-- R307 `SET 6,(HL)`. -/
def execSet_6_atHL (s : State) : Result := setBitAtHL 6 s

/-- R306 `SET 6,A`. -/
def execSet_6_A (s : State) : Result := setBitReg 6 .A s

/-- R306 `SET 7,B`. -/
def execSet_7_B (s : State) : Result := setBitReg 7 .B s

/-- R306 `SET 7,C`. -/
def execSet_7_C (s : State) : Result := setBitReg 7 .C s

/-- R306 `SET 7,D`. -/
def execSet_7_D (s : State) : Result := setBitReg 7 .D s

/-- R306 `SET 7,E`. -/
def execSet_7_E (s : State) : Result := setBitReg 7 .E s

/-- R306 `SET 7,H`. -/
def execSet_7_H (s : State) : Result := setBitReg 7 .H s

/-- R306 `SET 7,L`. -/
def execSet_7_L (s : State) : Result := setBitReg 7 .L s

/-- R307 `SET 7,(HL)`. -/
def execSet_7_atHL (s : State) : Result := setBitAtHL 7 s

/-- R306 `SET 7,A`. -/
def execSet_7_A (s : State) : Result := setBitReg 7 .A s

end Sys2Proof.Machine
end

