-- ==== Sys2Proof/Machine/Control.lean ====
section
/-! DEFINITION. Control transfer (45_control, R330 to R341). PC already points past the instruction (R14).
First the shared operations, one per rule, then one meaning per row of the opcode table. -/

namespace Sys2Proof.Machine

/-- R334: a relative target, from the address after the instruction. -/
def State.relative (s : State) (e8 : Byte) : Word := s.regs.pc + sext16 e8

/-- R331: `PC <- n16`. -/
def jp (n16 : Word) (s : State) : Result := finish 4 (s.setPc n16)

/-- R332. -/
def jpCond (cc : Cond) (n16 : Word) (s : State) : Result := if s.holds cc then finish 4 (s.setPc n16) else finish 3 s

/-- R333: `PC <- HL`. -/
def jpHL (s : State) : Result := finish 1 (s.setPc s.hl)

/-- R334. -/
def jr (e8 : Byte) (s : State) : Result := finish 3 (s.setPc (s.relative e8))

/-- R335. -/
def jrCond (cc : Cond) (e8 : Byte) (s : State) : Result := if s.holds cc then finish 3 (s.setPc (s.relative e8)) else finish 2 s

/-- R336, R341: `Push16(PC); PC <- target`. -/
def State.callTo (s : State) (target : Word) : Act State := do
  let s ← s.push16 s.regs.pc
  return s.setPc target

/-- R338: `PC <- Pop16()`. -/
def State.returnFromCall (s : State) : Act State := do
  let (target, s) ← s.pop16
  return s.setPc target

/-- R336. -/
def call (n16 : Word) (s : State) : Result := perform 6 (s.callTo n16)

/-- R337. -/
def callCond (cc : Cond) (n16 : Word) (s : State) : Result := if s.holds cc then perform 6 (s.callTo n16) else finish 3 s

/-- R338. -/
def ret (s : State) : Result := perform 4 s.returnFromCall

/-- R339. -/
def retCond (cc : Cond) (s : State) : Result := if s.holds cc then perform 5 s.returnFromCall else finish 2 s

/-- R340. -/
def reti (s : State) : Result := perform 4 s.returnFromInterrupt

/-- R341: the target of `RST t` is 8·t. -/
def restartTarget (t : Fin 8) : Word := 8 * BitVec.ofNat 16 t.val

/-- R341. -/
def rst (t : Fin 8) (s : State) : Result := perform 4 (s.callTo (restartTarget t))

/-! ## One meaning per row -/

/-- R334 `JR e8`. -/
def execJr_e8 (e8 : Byte) (s : State) : Result := jr e8 s

/-- R335 `JR NZ,e8`. -/
def execJr_NZ_e8 (e8 : Byte) (s : State) : Result := jrCond .NZ e8 s

/-- R335 `JR Z,e8`. -/
def execJr_Z_e8 (e8 : Byte) (s : State) : Result := jrCond .Z e8 s

/-- R335 `JR NC,e8`. -/
def execJr_NC_e8 (e8 : Byte) (s : State) : Result := jrCond .NC e8 s

/-- R335 `JR C,e8`. -/
def execJr_C_e8 (e8 : Byte) (s : State) : Result := jrCond .C e8 s

/-- R339 `RET NZ`. -/
def execRet_NZ (s : State) : Result := retCond .NZ s

/-- R332 `JP NZ,n16`. -/
def execJp_NZ_n16 (n16 : Word) (s : State) : Result := jpCond .NZ n16 s

/-- R331 `JP n16`. -/
def execJp_n16 (n16 : Word) (s : State) : Result := jp n16 s

/-- R337 `CALL NZ,n16`. -/
def execCall_NZ_n16 (n16 : Word) (s : State) : Result := callCond .NZ n16 s

/-- R341 `RST 0x00`. -/
def execRst_00 (s : State) : Result := rst 0 s

/-- R339 `RET Z`. -/
def execRet_Z (s : State) : Result := retCond .Z s

/-- R338 `RET`. -/
def execRet (s : State) : Result := ret s

/-- R332 `JP Z,n16`. -/
def execJp_Z_n16 (n16 : Word) (s : State) : Result := jpCond .Z n16 s

/-- R337 `CALL Z,n16`. -/
def execCall_Z_n16 (n16 : Word) (s : State) : Result := callCond .Z n16 s

/-- R336 `CALL n16`. -/
def execCall_n16 (n16 : Word) (s : State) : Result := call n16 s

/-- R341 `RST 0x08`. -/
def execRst_08 (s : State) : Result := rst 1 s

/-- R339 `RET NC`. -/
def execRet_NC (s : State) : Result := retCond .NC s

/-- R332 `JP NC,n16`. -/
def execJp_NC_n16 (n16 : Word) (s : State) : Result := jpCond .NC n16 s

/-- R337 `CALL NC,n16`. -/
def execCall_NC_n16 (n16 : Word) (s : State) : Result := callCond .NC n16 s

/-- R341 `RST 0x10`. -/
def execRst_10 (s : State) : Result := rst 2 s

/-- R339 `RET C`. -/
def execRet_C (s : State) : Result := retCond .C s

/-- R340 `RETI`. -/
def execReti (s : State) : Result := reti s

/-- R332 `JP C,n16`. -/
def execJp_C_n16 (n16 : Word) (s : State) : Result := jpCond .C n16 s

/-- R337 `CALL C,n16`. -/
def execCall_C_n16 (n16 : Word) (s : State) : Result := callCond .C n16 s

/-- R341 `RST 0x18`. -/
def execRst_18 (s : State) : Result := rst 3 s

/-- R341 `RST 0x20`. -/
def execRst_20 (s : State) : Result := rst 4 s

/-- R333 `JP HL`. -/
def execJp_HL (s : State) : Result := jpHL s

/-- R341 `RST 0x28`. -/
def execRst_28 (s : State) : Result := rst 5 s

/-- R341 `RST 0x30`. -/
def execRst_30 (s : State) : Result := rst 6 s

/-- R341 `RST 0x38`. -/
def execRst_38 (s : State) : Result := rst 7 s

end Sys2Proof.Machine
end

