-- ==== Sys2Proof/Machine/Load16.lean ====
section
/-! DEFINITION. 16-bit loads and the stack (41_load16, R201 to R207).
First the shared operations, one per rule, then one meaning per row of the opcode table. -/

namespace Sys2Proof.Machine

/-- R201: `rr <- n16`. -/
def ldPairImm (rr : Pair) (n16 : Word) (s : State) : Result := finish 3 (s.setPair rr n16)

/-- R202: `MemWrite(n16, 2, SP)`. -/
def ldAtImmSP (n16 : Word) (s : State) : Result := perform 5 (s.writeWord n16 s.regs.sp)

/-- R203: `SP <- HL`. -/
def ldSPHL (s : State) : Result := finish 2 (s.setSp s.hl)

/-- R204: HL takes SP plus the displacement; H and C from the low bytes. -/
def ldHLSPe8 (e8 : Byte) (s : State) : Result :=
  let carries := spPlusCarries s.regs.sp e8
  finish 3 ((s.setPair .HL (spPlus s.regs.sp e8)).setFlags false false carries.1 carries.2)

/-- R205: `Push16(qq)`. -/
def pushPair (qq : Pair) (s : State) : Result := perform 4 (s.push16 (s.pair qq))

/-- R206, R207: `qq <- Pop16()`; into AF, bits 3:0 of the popped word are discarded. -/
def popPair (qq : Pair) (s : State) : Result :=
  perform 3 do
    let (v, s) ← s.pop16
    return s.setPair qq v

/-! ## One meaning per row -/

/-- R201 `LD BC,n16`. -/
def execLd_BC_n16 (n16 : Word) (s : State) : Result := ldPairImm .BC n16 s

/-- R202 `LD (n16),SP`. -/
def execLd_atN16_SP (n16 : Word) (s : State) : Result := ldAtImmSP n16 s

/-- R201 `LD DE,n16`. -/
def execLd_DE_n16 (n16 : Word) (s : State) : Result := ldPairImm .DE n16 s

/-- R201 `LD HL,n16`. -/
def execLd_HL_n16 (n16 : Word) (s : State) : Result := ldPairImm .HL n16 s

/-- R201 `LD SP,n16`. -/
def execLd_SP_n16 (n16 : Word) (s : State) : Result := ldPairImm .SP n16 s

/-- R206 `POP BC`. -/
def execPop_BC (s : State) : Result := popPair .BC s

/-- R205 `PUSH BC`. -/
def execPush_BC (s : State) : Result := pushPair .BC s

/-- R206 `POP DE`. -/
def execPop_DE (s : State) : Result := popPair .DE s

/-- R205 `PUSH DE`. -/
def execPush_DE (s : State) : Result := pushPair .DE s

/-- R206 `POP HL`. -/
def execPop_HL (s : State) : Result := popPair .HL s

/-- R205 `PUSH HL`. -/
def execPush_HL (s : State) : Result := pushPair .HL s

/-- R207 `POP AF`. -/
def execPop_AF (s : State) : Result := popPair .AF s

/-- R205 `PUSH AF`. -/
def execPush_AF (s : State) : Result := pushPair .AF s

/-- R204 `LD HL,SP+e8`. -/
def execLd_HL_SPplusE8 (e8 : Byte) (s : State) : Result := ldHLSPe8 e8 s

/-- R203 `LD SP,HL`. -/
def execLd_SP_HL (s : State) : Result := ldSPHL s

end Sys2Proof.Machine
end

