-- ==== Sys2Proof/Machine/Load8.lean ====
section
/-! DEFINITION. 8-bit loads (40_load8, R161 to R179). A load writes no flag (R160).
First the shared operations, one per rule, then one meaning per row of the opcode table. -/

namespace Sys2Proof.Machine

/-- R161: `reg8(y) <- reg8(z)`. -/
def ldRegReg (d r : Reg8) (s : State) : Result := finish 1 (s.setReg d (s.reg r))

/-- R162: `reg8(y) <- n8`. -/
def ldRegImm (d : Reg8) (n8 : Byte) (s : State) : Result := finish 2 (s.setReg d n8)

/-- R163: `v <- MemRead(HL, 1); reg8(y) <- v`. -/
def ldRegAtHL (d : Reg8) (s : State) : Result :=
  perform 2 do
    let v ← s.readByte s.hl
    return s.setReg d v

/-- R164: `MemWrite(HL, 1, reg8(z))`. -/
def ldAtHLReg (r : Reg8) (s : State) : Result := perform 2 (s.writeByte s.hl (s.reg r))

/-- R165: `MemWrite(HL, 1, n8)`. -/
def ldAtHLImm (n8 : Byte) (s : State) : Result := perform 3 (s.writeByte s.hl n8)

/-- R166, R167, R170, R172, R174: `A <- MemRead(addr, 1)`, at the cost of the addressing form. -/
def loadA (m : Nat) (addr : Word) (s : State) : Result :=
  perform m do
    let v ← s.readByte addr
    return s.setReg .A v

/-- R168, R169, R171, R173, R175: `MemWrite(addr, 1, A)`, at the cost of the addressing form. -/
def storeA (m : Nat) (addr : Word) (s : State) : Result := perform m (s.writeByte addr s.regs.a)

/-- R176, R177: `addr <- HL; MemWrite(addr, 1, A); HL <- addr + delta`. -/
def storeAThenStep (delta : Word) (s : State) : Result :=
  perform 2 do
    let addr := s.hl
    let s ← s.writeByte addr s.regs.a
    return s.setPair .HL (addr + delta)

/-- R178, R179: `addr <- HL; A <- MemRead(addr, 1); HL <- addr + delta`. -/
def loadAThenStep (delta : Word) (s : State) : Result :=
  perform 2 do
    let addr := s.hl
    let v ← s.readByte addr
    return (s.setReg .A v).setPair .HL (addr + delta)

/-! ## One meaning per row -/

/-- R168 `LD (BC),A`. -/
def execLd_atBC_A (s : State) : Result := storeA 2 (s.pair .BC) s

/-- R162 `LD B,n8`. -/
def execLd_B_n8 (n8 : Byte) (s : State) : Result := ldRegImm .B n8 s

/-- R166 `LD A,(BC)`. -/
def execLd_A_atBC (s : State) : Result := loadA 2 (s.pair .BC) s

/-- R162 `LD C,n8`. -/
def execLd_C_n8 (n8 : Byte) (s : State) : Result := ldRegImm .C n8 s

/-- R169 `LD (DE),A`. -/
def execLd_atDE_A (s : State) : Result := storeA 2 (s.pair .DE) s

/-- R162 `LD D,n8`. -/
def execLd_D_n8 (n8 : Byte) (s : State) : Result := ldRegImm .D n8 s

/-- R167 `LD A,(DE)`. -/
def execLd_A_atDE (s : State) : Result := loadA 2 (s.pair .DE) s

/-- R162 `LD E,n8`. -/
def execLd_E_n8 (n8 : Byte) (s : State) : Result := ldRegImm .E n8 s

/-- R176 `LD (HL+),A`. -/
def execLd_atHLinc_A (s : State) : Result := storeAThenStep 1 s

/-- R162 `LD H,n8`. -/
def execLd_H_n8 (n8 : Byte) (s : State) : Result := ldRegImm .H n8 s

/-- R178 `LD A,(HL+)`. -/
def execLd_A_atHLinc (s : State) : Result := loadAThenStep 1 s

/-- R162 `LD L,n8`. -/
def execLd_L_n8 (n8 : Byte) (s : State) : Result := ldRegImm .L n8 s

/-- R177 `LD (HL-),A`. -/
def execLd_atHLdec_A (s : State) : Result := storeAThenStep (-1) s

/-- R165 `LD (HL),n8`. -/
def execLd_atHL_n8 (n8 : Byte) (s : State) : Result := ldAtHLImm n8 s

/-- R179 `LD A,(HL-)`. -/
def execLd_A_atHLdec (s : State) : Result := loadAThenStep (-1) s

/-- R162 `LD A,n8`. -/
def execLd_A_n8 (n8 : Byte) (s : State) : Result := ldRegImm .A n8 s

/-- R161 `LD B,B`. -/
def execLd_B_B (s : State) : Result := ldRegReg .B .B s

/-- R161 `LD B,C`. -/
def execLd_B_C (s : State) : Result := ldRegReg .B .C s

/-- R161 `LD B,D`. -/
def execLd_B_D (s : State) : Result := ldRegReg .B .D s

/-- R161 `LD B,E`. -/
def execLd_B_E (s : State) : Result := ldRegReg .B .E s

/-- R161 `LD B,H`. -/
def execLd_B_H (s : State) : Result := ldRegReg .B .H s

/-- R161 `LD B,L`. -/
def execLd_B_L (s : State) : Result := ldRegReg .B .L s

/-- R163 `LD B,(HL)`. -/
def execLd_B_atHL (s : State) : Result := ldRegAtHL .B s

/-- R161 `LD B,A`. -/
def execLd_B_A (s : State) : Result := ldRegReg .B .A s

/-- R161 `LD C,B`. -/
def execLd_C_B (s : State) : Result := ldRegReg .C .B s

/-- R161 `LD C,C`. -/
def execLd_C_C (s : State) : Result := ldRegReg .C .C s

/-- R161 `LD C,D`. -/
def execLd_C_D (s : State) : Result := ldRegReg .C .D s

/-- R161 `LD C,E`. -/
def execLd_C_E (s : State) : Result := ldRegReg .C .E s

/-- R161 `LD C,H`. -/
def execLd_C_H (s : State) : Result := ldRegReg .C .H s

/-- R161 `LD C,L`. -/
def execLd_C_L (s : State) : Result := ldRegReg .C .L s

/-- R163 `LD C,(HL)`. -/
def execLd_C_atHL (s : State) : Result := ldRegAtHL .C s

/-- R161 `LD C,A`. -/
def execLd_C_A (s : State) : Result := ldRegReg .C .A s

/-- R161 `LD D,B`. -/
def execLd_D_B (s : State) : Result := ldRegReg .D .B s

/-- R161 `LD D,C`. -/
def execLd_D_C (s : State) : Result := ldRegReg .D .C s

/-- R161 `LD D,D`. -/
def execLd_D_D (s : State) : Result := ldRegReg .D .D s

/-- R161 `LD D,E`. -/
def execLd_D_E (s : State) : Result := ldRegReg .D .E s

/-- R161 `LD D,H`. -/
def execLd_D_H (s : State) : Result := ldRegReg .D .H s

/-- R161 `LD D,L`. -/
def execLd_D_L (s : State) : Result := ldRegReg .D .L s

/-- R163 `LD D,(HL)`. -/
def execLd_D_atHL (s : State) : Result := ldRegAtHL .D s

/-- R161 `LD D,A`. -/
def execLd_D_A (s : State) : Result := ldRegReg .D .A s

/-- R161 `LD E,B`. -/
def execLd_E_B (s : State) : Result := ldRegReg .E .B s

/-- R161 `LD E,C`. -/
def execLd_E_C (s : State) : Result := ldRegReg .E .C s

/-- R161 `LD E,D`. -/
def execLd_E_D (s : State) : Result := ldRegReg .E .D s

/-- R161 `LD E,E`. -/
def execLd_E_E (s : State) : Result := ldRegReg .E .E s

/-- R161 `LD E,H`. -/
def execLd_E_H (s : State) : Result := ldRegReg .E .H s

/-- R161 `LD E,L`. -/
def execLd_E_L (s : State) : Result := ldRegReg .E .L s

/-- R163 `LD E,(HL)`. -/
def execLd_E_atHL (s : State) : Result := ldRegAtHL .E s

/-- R161 `LD E,A`. -/
def execLd_E_A (s : State) : Result := ldRegReg .E .A s

/-- R161 `LD H,B`. -/
def execLd_H_B (s : State) : Result := ldRegReg .H .B s

/-- R161 `LD H,C`. -/
def execLd_H_C (s : State) : Result := ldRegReg .H .C s

/-- R161 `LD H,D`. -/
def execLd_H_D (s : State) : Result := ldRegReg .H .D s

/-- R161 `LD H,E`. -/
def execLd_H_E (s : State) : Result := ldRegReg .H .E s

/-- R161 `LD H,H`. -/
def execLd_H_H (s : State) : Result := ldRegReg .H .H s

/-- R161 `LD H,L`. -/
def execLd_H_L (s : State) : Result := ldRegReg .H .L s

/-- R163 `LD H,(HL)`. -/
def execLd_H_atHL (s : State) : Result := ldRegAtHL .H s

/-- R161 `LD H,A`. -/
def execLd_H_A (s : State) : Result := ldRegReg .H .A s

/-- R161 `LD L,B`. -/
def execLd_L_B (s : State) : Result := ldRegReg .L .B s

/-- R161 `LD L,C`. -/
def execLd_L_C (s : State) : Result := ldRegReg .L .C s

/-- R161 `LD L,D`. -/
def execLd_L_D (s : State) : Result := ldRegReg .L .D s

/-- R161 `LD L,E`. -/
def execLd_L_E (s : State) : Result := ldRegReg .L .E s

/-- R161 `LD L,H`. -/
def execLd_L_H (s : State) : Result := ldRegReg .L .H s

/-- R161 `LD L,L`. -/
def execLd_L_L (s : State) : Result := ldRegReg .L .L s

/-- R163 `LD L,(HL)`. -/
def execLd_L_atHL (s : State) : Result := ldRegAtHL .L s

/-- R161 `LD L,A`. -/
def execLd_L_A (s : State) : Result := ldRegReg .L .A s

/-- R164 `LD (HL),B`. -/
def execLd_atHL_B (s : State) : Result := ldAtHLReg .B s

/-- R164 `LD (HL),C`. -/
def execLd_atHL_C (s : State) : Result := ldAtHLReg .C s

/-- R164 `LD (HL),D`. -/
def execLd_atHL_D (s : State) : Result := ldAtHLReg .D s

/-- R164 `LD (HL),E`. -/
def execLd_atHL_E (s : State) : Result := ldAtHLReg .E s

/-- R164 `LD (HL),H`. -/
def execLd_atHL_H (s : State) : Result := ldAtHLReg .H s

/-- R164 `LD (HL),L`. -/
def execLd_atHL_L (s : State) : Result := ldAtHLReg .L s

/-- R164 `LD (HL),A`. -/
def execLd_atHL_A (s : State) : Result := ldAtHLReg .A s

/-- R161 `LD A,B`. -/
def execLd_A_B (s : State) : Result := ldRegReg .A .B s

/-- R161 `LD A,C`. -/
def execLd_A_C (s : State) : Result := ldRegReg .A .C s

/-- R161 `LD A,D`. -/
def execLd_A_D (s : State) : Result := ldRegReg .A .D s

/-- R161 `LD A,E`. -/
def execLd_A_E (s : State) : Result := ldRegReg .A .E s

/-- R161 `LD A,H`. -/
def execLd_A_H (s : State) : Result := ldRegReg .A .H s

/-- R161 `LD A,L`. -/
def execLd_A_L (s : State) : Result := ldRegReg .A .L s

/-- R163 `LD A,(HL)`. -/
def execLd_A_atHL (s : State) : Result := ldRegAtHL .A s

/-- R161 `LD A,A`. -/
def execLd_A_A (s : State) : Result := ldRegReg .A .A s

/-- R173 `LDH (n8),A`. -/
def execLdh_atN8_A (n8 : Byte) (s : State) : Result := storeA 3 (ioPage n8) s

/-- R175 `LD (C),A`. -/
def execLd_atC_A (s : State) : Result := storeA 2 (ioPage s.regs.c) s

/-- R171 `LD (n16),A`. -/
def execLd_atN16_A (n16 : Word) (s : State) : Result := storeA 4 n16 s

/-- R172 `LDH A,(n8)`. -/
def execLdh_A_atN8 (n8 : Byte) (s : State) : Result := loadA 3 (ioPage n8) s

/-- R174 `LD A,(C)`. -/
def execLd_A_atC (s : State) : Result := loadA 2 (ioPage s.regs.c) s

/-- R170 `LD A,(n16)`. -/
def execLd_A_atN16 (n16 : Word) (s : State) : Result := loadA 4 n16 s

end Sys2Proof.Machine
end

