-- ==== Sys2Proof/Machine/Shift.lean ====
section
/-! DEFINITION. Rotates and shifts (44_rotate_shift_bit, R280 to R301).
First the shared operations, one per rule, then one meaning per row of the opcode table. -/

namespace Sys2Proof.Machine

/-- R282 to R285: the accumulator rotates; Z is always cleared. -/
def rotA (op : ShiftOp) (s : State) : Result :=
  finish 1 ((s.setReg .A (shiftRes op s.regs.a s.flagC)).setFlags false false false (shiftCarry op s.regs.a))

/-- R280: the flags of a CB rotate or shift of v, Z from the result. -/
def State.shiftFlags (s : State) (op : ShiftOp) (v : Byte) (cin : Bool) : State :=
  s.setFlags (shiftRes op v cin == 0) false false (shiftCarry op v)

/-- R286 to R300: a CB rotate or shift of a register. -/
def shiftReg (op : ShiftOp) (r : Reg8) (s : State) : Result :=
  finish 2 ((s.setReg r (shiftRes op (s.reg r) s.flagC)).shiftFlags op (s.reg r) s.flagC)

/-- R287 to R301: a CB rotate or shift of the byte at HL: a read and a write. -/
def shiftAtHL (op : ShiftOp) (s : State) : Result :=
  perform 4 do
    let v ← s.readByte s.hl
    let s' ← s.writeByte s.hl (shiftRes op v s.flagC)
    return s'.shiftFlags op v s.flagC

/-! ## One meaning per row -/

/-- R282 `RLCA`. -/
def execRlca (s : State) : Result := rotA .rlc s

/-- R283 `RRCA`. -/
def execRrca (s : State) : Result := rotA .rrc s

/-- R284 `RLA`. -/
def execRla (s : State) : Result := rotA .rl s

/-- R285 `RRA`. -/
def execRra (s : State) : Result := rotA .rr s

/-- R286 `RLC B`. -/
def execRlc_B (s : State) : Result := shiftReg .rlc .B s

/-- R286 `RLC C`. -/
def execRlc_C (s : State) : Result := shiftReg .rlc .C s

/-- R286 `RLC D`. -/
def execRlc_D (s : State) : Result := shiftReg .rlc .D s

/-- R286 `RLC E`. -/
def execRlc_E (s : State) : Result := shiftReg .rlc .E s

/-- R286 `RLC H`. -/
def execRlc_H (s : State) : Result := shiftReg .rlc .H s

/-- R286 `RLC L`. -/
def execRlc_L (s : State) : Result := shiftReg .rlc .L s

/-- R287 `RLC (HL)`. -/
def execRlc_atHL (s : State) : Result := shiftAtHL .rlc s

/-- R286 `RLC A`. -/
def execRlc_A (s : State) : Result := shiftReg .rlc .A s

/-- R288 `RRC B`. -/
def execRrc_B (s : State) : Result := shiftReg .rrc .B s

/-- R288 `RRC C`. -/
def execRrc_C (s : State) : Result := shiftReg .rrc .C s

/-- R288 `RRC D`. -/
def execRrc_D (s : State) : Result := shiftReg .rrc .D s

/-- R288 `RRC E`. -/
def execRrc_E (s : State) : Result := shiftReg .rrc .E s

/-- R288 `RRC H`. -/
def execRrc_H (s : State) : Result := shiftReg .rrc .H s

/-- R288 `RRC L`. -/
def execRrc_L (s : State) : Result := shiftReg .rrc .L s

/-- R289 `RRC (HL)`. -/
def execRrc_atHL (s : State) : Result := shiftAtHL .rrc s

/-- R288 `RRC A`. -/
def execRrc_A (s : State) : Result := shiftReg .rrc .A s

/-- R290 `RL B`. -/
def execRl_B (s : State) : Result := shiftReg .rl .B s

/-- R290 `RL C`. -/
def execRl_C (s : State) : Result := shiftReg .rl .C s

/-- R290 `RL D`. -/
def execRl_D (s : State) : Result := shiftReg .rl .D s

/-- R290 `RL E`. -/
def execRl_E (s : State) : Result := shiftReg .rl .E s

/-- R290 `RL H`. -/
def execRl_H (s : State) : Result := shiftReg .rl .H s

/-- R290 `RL L`. -/
def execRl_L (s : State) : Result := shiftReg .rl .L s

/-- R291 `RL (HL)`. -/
def execRl_atHL (s : State) : Result := shiftAtHL .rl s

/-- R290 `RL A`. -/
def execRl_A (s : State) : Result := shiftReg .rl .A s

/-- R292 `RR B`. -/
def execRr_B (s : State) : Result := shiftReg .rr .B s

/-- R292 `RR C`. -/
def execRr_C (s : State) : Result := shiftReg .rr .C s

/-- R292 `RR D`. -/
def execRr_D (s : State) : Result := shiftReg .rr .D s

/-- R292 `RR E`. -/
def execRr_E (s : State) : Result := shiftReg .rr .E s

/-- R292 `RR H`. -/
def execRr_H (s : State) : Result := shiftReg .rr .H s

/-- R292 `RR L`. -/
def execRr_L (s : State) : Result := shiftReg .rr .L s

/-- R293 `RR (HL)`. -/
def execRr_atHL (s : State) : Result := shiftAtHL .rr s

/-- R292 `RR A`. -/
def execRr_A (s : State) : Result := shiftReg .rr .A s

/-- R294 `SLA B`. -/
def execSla_B (s : State) : Result := shiftReg .sla .B s

/-- R294 `SLA C`. -/
def execSla_C (s : State) : Result := shiftReg .sla .C s

/-- R294 `SLA D`. -/
def execSla_D (s : State) : Result := shiftReg .sla .D s

/-- R294 `SLA E`. -/
def execSla_E (s : State) : Result := shiftReg .sla .E s

/-- R294 `SLA H`. -/
def execSla_H (s : State) : Result := shiftReg .sla .H s

/-- R294 `SLA L`. -/
def execSla_L (s : State) : Result := shiftReg .sla .L s

/-- R295 `SLA (HL)`. -/
def execSla_atHL (s : State) : Result := shiftAtHL .sla s

/-- R294 `SLA A`. -/
def execSla_A (s : State) : Result := shiftReg .sla .A s

/-- R296 `SRA B`. -/
def execSra_B (s : State) : Result := shiftReg .sra .B s

/-- R296 `SRA C`. -/
def execSra_C (s : State) : Result := shiftReg .sra .C s

/-- R296 `SRA D`. -/
def execSra_D (s : State) : Result := shiftReg .sra .D s

/-- R296 `SRA E`. -/
def execSra_E (s : State) : Result := shiftReg .sra .E s

/-- R296 `SRA H`. -/
def execSra_H (s : State) : Result := shiftReg .sra .H s

/-- R296 `SRA L`. -/
def execSra_L (s : State) : Result := shiftReg .sra .L s

/-- R297 `SRA (HL)`. -/
def execSra_atHL (s : State) : Result := shiftAtHL .sra s

/-- R296 `SRA A`. -/
def execSra_A (s : State) : Result := shiftReg .sra .A s

/-- R298 `SWAP B`. -/
def execSwap_B (s : State) : Result := shiftReg .swap .B s

/-- R298 `SWAP C`. -/
def execSwap_C (s : State) : Result := shiftReg .swap .C s

/-- R298 `SWAP D`. -/
def execSwap_D (s : State) : Result := shiftReg .swap .D s

/-- R298 `SWAP E`. -/
def execSwap_E (s : State) : Result := shiftReg .swap .E s

/-- R298 `SWAP H`. -/
def execSwap_H (s : State) : Result := shiftReg .swap .H s

/-- R298 `SWAP L`. -/
def execSwap_L (s : State) : Result := shiftReg .swap .L s

/-- R299 `SWAP (HL)`. -/
def execSwap_atHL (s : State) : Result := shiftAtHL .swap s

/-- R298 `SWAP A`. -/
def execSwap_A (s : State) : Result := shiftReg .swap .A s

/-- R300 `SRL B`. -/
def execSrl_B (s : State) : Result := shiftReg .srl .B s

/-- R300 `SRL C`. -/
def execSrl_C (s : State) : Result := shiftReg .srl .C s

/-- R300 `SRL D`. -/
def execSrl_D (s : State) : Result := shiftReg .srl .D s

/-- R300 `SRL E`. -/
def execSrl_E (s : State) : Result := shiftReg .srl .E s

/-- R300 `SRL H`. -/
def execSrl_H (s : State) : Result := shiftReg .srl .H s

/-- R300 `SRL L`. -/
def execSrl_L (s : State) : Result := shiftReg .srl .L s

/-- R301 `SRL (HL)`. -/
def execSrl_atHL (s : State) : Result := shiftAtHL .srl s

/-- R300 `SRL A`. -/
def execSrl_A (s : State) : Result := shiftReg .srl .A s

end Sys2Proof.Machine
end

