-- ==== Sys2Proof/Machine/System.lean ====
section
/-! DEFINITION. System instructions (46_system, R350 to R357).
First the shared operations, one per rule, then one meaning per row of the opcode table. -/

namespace Sys2Proof.Machine

/-- R351. -/
def nop (s : State) : Result := finish 1 s

/-- R352: `halted <- true`. -/
def halt (s : State) : Result := finish 1 { s with ints := { s.ints with halted := true } }

/-- R357, R373: `raise Fatal(UnimplementedOpcode, …)`; `length` bytes have been fetched, so `pc0` is PC − length. -/
def unimplemented (op : Byte) (length : Word) (s : State) : Result :=
  .next (s.raise (.unimplementedOpcode op false (s.regs.pc - length)))

/-- R353: STOP under a policy (R7 `STOP_POLICY`). -/
def stopUnder (policy : StopPolicy) (s : State) : Result :=
  match policy with
  | .nop2 => finish 1 s
  | .fault => unimplemented 0x10 2 s

/-- R354: `di_delay <- 2`. -/
def di (s : State) : Result := finish 1 { s with ints := { s.ints with diDelay := 2 } }

/-- R355: `ei_delay <- 2`. -/
def ei (s : State) : Result := finish 1 { s with ints := { s.ints with eiDelay := 2 } }

/-- R134: the register of a field, or `none` for (HL). -/
def fieldReg (z : BitVec 3) : Option Reg8 :=
  if z = 0 then some .B else if z = 1 then some .C else if z = 2 then some .D else if z = 3 then some .E
  else if z = 4 then some .H else if z = 5 then some .L else if z = 6 then none else some .A

/-- R140: the rotate or shift of a field. -/
def fieldShift (y : BitVec 3) : ShiftOp :=
  if y = 0 then .rlc else if y = 1 then .rrc else if y = 2 then .rl else if y = 3 then .rr
  else if y = 4 then .sla else if y = 5 then .sra else if y = 6 then .swap else .srl

/-- R140, R356: execute the CB instruction of a byte, from its fields x, y and z. -/
def cbPage (op2 : Byte) (s : State) : Result :=
  let x := op2.extractLsb' 6 2
  let y := op2.extractLsb' 3 3
  match fieldReg (op2.extractLsb' 0 3) with
  | some r =>
    if x = 0 then shiftReg (fieldShift y) r s
    else if x = 1 then bitReg y.toFin r s
    else if x = 2 then resReg y.toFin r s
    else setBitReg y.toFin r s
  | none =>
    if x = 0 then shiftAtHL (fieldShift y) s
    else if x = 1 then bitAtHL y.toFin s
    else if x = 2 then resAtHL y.toFin s
    else setBitAtHL y.toFin s

/-! ## One meaning per row -/

/-- R351 `NOP`. -/
def execNop (s : State) : Result := nop s

/-- R353 `STOP`. -/
def execStop (_n8 : Byte) (s : State) : Result := stopUnder Config.stopPolicy s

/-- R352 `HALT`. -/
def execHalt (s : State) : Result := halt s

/-- R356 `PREFIX CB`. -/
def execPrefixCb (op2 : Byte) (s : State) : Result := cbPage op2 s

/-- R357 `ILLEGAL 0xD3`. -/
def execIllegal_D3 (s : State) : Result := unimplemented 0xD3 1 s

/-- R357 `ILLEGAL 0xDB`. -/
def execIllegal_DB (s : State) : Result := unimplemented 0xDB 1 s

/-- R357 `ILLEGAL 0xDD`. -/
def execIllegal_DD (s : State) : Result := unimplemented 0xDD 1 s

/-- R357 `ILLEGAL 0xE3`. -/
def execIllegal_E3 (s : State) : Result := unimplemented 0xE3 1 s

/-- R357 `ILLEGAL 0xE4`. -/
def execIllegal_E4 (s : State) : Result := unimplemented 0xE4 1 s

/-- R357 `ILLEGAL 0xEB`. -/
def execIllegal_EB (s : State) : Result := unimplemented 0xEB 1 s

/-- R357 `ILLEGAL 0xEC`. -/
def execIllegal_EC (s : State) : Result := unimplemented 0xEC 1 s

/-- R357 `ILLEGAL 0xED`. -/
def execIllegal_ED (s : State) : Result := unimplemented 0xED 1 s

/-- R354 `DI`. -/
def execDi (s : State) : Result := di s

/-- R357 `ILLEGAL 0xF4`. -/
def execIllegal_F4 (s : State) : Result := unimplemented 0xF4 1 s

/-- R355 `EI`. -/
def execEi (s : State) : Result := ei s

/-- R357 `ILLEGAL 0xFC`. -/
def execIllegal_FC (s : State) : Result := unimplemented 0xFC 1 s

/-- R357 `ILLEGAL 0xFD`. -/
def execIllegal_FD (s : State) : Result := unimplemented 0xFD 1 s

end Sys2Proof.Machine
end

