-- ==== Sys2Proof/Machine/Interrupts.lean ====
section
/-! DEFINITION. The interrupt controller outside dispatch: requests (R381), the delay tick (R384), the try (R385). -/

namespace Sys2Proof.Machine

/-- R381 `RequestInterrupt(i)`: `IF <- IF | (1 << i)`. -/
def State.request (s : State) (i : Fin 5) : State :=
  { s with ints := { s.ints with iflag := s.ints.iflag ||| (1#5 <<< i.val) } }

/-- R384, first half: the disable counter. -/
def Interrupts.tickDi (c : Interrupts) : Interrupts :=
  if c.diDelay = 0 then c
  else if c.diDelay = 1 then { c with diDelay := 0, ime := false }
  else { c with diDelay := 1 }

/-- R384, second half: the enable counter. -/
def Interrupts.tickEi (c : Interrupts) : Interrupts :=
  if c.eiDelay = 0 then c
  else if c.eiDelay = 1 then { c with eiDelay := 0, ime := true }
  else { c with eiDelay := 1 }

/-- R384 `tick_delays`: the disable first, then the enable (D9). -/
def State.tickDelays (s : State) : State := { s with ints := s.ints.tickDi.tickEi }

/-- R385, R386: the lowest set bit of a mask. -/
def lowestSet (p : BitVec 5) : Option (Fin 5) :=
  if p.getLsbD 0 then some 0
  else if p.getLsbD 1 then some 1
  else if p.getLsbD 2 then some 2
  else if p.getLsbD 3 then some 3
  else if p.getLsbD 4 then some 4
  else none

/-- R385: the source that `tryInterrupt` selects, if any. -/
def Interrupts.selected (c : Interrupts) : Option (Fin 5) :=
  if c.ime || c.halted then lowestSet (c.ie &&& c.iflag) else none

/-- R385: what selecting source i changes: halted is cleared and so is bit i of IF. -/
def State.acknowledge (s : State) (i : Fin 5) : State :=
  { s with ints := { s.ints with halted := false, iflag := s.ints.iflag &&& ~~~(1#5 <<< i.val) } }

end Sys2Proof.Machine
end

