-- ==== Sys2Proof/Machine/Render.lean ====
section
/-! DEFINITION. The scanline renderer (R418 to R425). R418 fills three row buffers, layer after layer; no column of a
layer looks at another column, so each function here gives one column and `renderRow` all 160 (log 12). -/

namespace Sys2Proof.Machine

/-- R49: bit i of LCDC. -/
def Display.lcdcBit (d : Display) (i : Nat) : Bool := d.lcdc.getLsbD i

/-- R418: `VRAM[a - 0x8000]`, read directly at its bus address a. -/
def State.vram (s : State) (a : Nat) : Byte := s.mem.read a

/-- R422: byte j of OAM entry k. -/
def State.oam (s : State) (k j : Nat) : Byte := s.mem.read (oamBase + 4 * k + j)

/-- R419 `tile_base(t, unsigned)`. -/
def tileBase (t : Byte) (unsigned : Bool) : Nat :=
  if unsigned then 0x8000 + 16 * t.toNat
  else if t.toNat < 128 then 0x9000 + 16 * t.toNat
  else 0x9000 + 16 * t.toNat - 16 * 256

/-- R419 `pix(base, r, c)`: `hi[7 - c] << 1 | lo[7 - c]`. -/
def State.pix (s : State) (base r c : Nat) : Shade :=
  let lo := s.vram (base + 2 * r)
  let hi := s.vram (base + 2 * r + 1)
  BitVec.ofBool (hi.getLsbD (7 - c)) ++ BitVec.ofBool (lo.getLsbD (7 - c))

/-- R425: the shade of colour index ci under palette p, `(p >> 2ci) & 3`. -/
def shadeOf (p : Byte) (ci : Shade) : Shade := p.extractLsb' (2 * ci.toNat) 2

/-- R49, R419: the base of a tile map. -/
def mapBase (high : Bool) : Nat := if high then 0x9C00 else 0x9800

/-- R420, R421: the colour index at point (x, y) of a tile map. -/
def State.mapPixel (s : State) (map x y : Nat) : Shade :=
  let t := s.vram (map + 32 * (y / 8) + x / 8)
  s.pix (tileBase t (s.lcd.lcdcBit 4)) (y % 8) (x % 8)

/-- R420: whether the background is drawn. -/
def Display.backgroundOn (d : Display) : Bool := d.lcdcBit 0

/-- R420: the background's colour index at column x of line ly. -/
def State.backgroundIndex (s : State) (ly x : Nat) : Shade :=
  s.mapPixel (mapBase (s.lcd.lcdcBit 3)) ((x + s.lcd.scx.toNat) % 256) ((ly + s.lcd.scy.toNat) % 256)

/-- R421: whether the window covers column x of line ly: `x < WX - 7` skips the column. -/
def Display.windowCovers (d : Display) (ly x : Nat) : Bool :=
  d.lcdcBit 0 && d.lcdcBit 5 && decide (d.wy.toNat ≤ ly) && decide (d.wx.toNat ≤ x + 7)

/-- R421: the window's colour index; its line is ly − WY, its column x − (WX − 7). -/
def State.windowIndex (s : State) (ly x : Nat) : Shade :=
  s.mapPixel (mapBase (s.lcd.lcdcBit 6)) (x + 7 - s.lcd.wx.toNat) (ly - s.lcd.wy.toNat)

/-- R418 `bgi[x]`: the background or window colour index, 0 where neither is drawn (D31, D32). -/
def State.underIndex (s : State) (ly x : Nat) : Shade :=
  if s.lcd.windowCovers ly x then s.windowIndex ly x
  else if s.lcd.backgroundOn then s.backgroundIndex ly x
  else 0

/-- R418, R420, R421: the shade of column x before sprites. -/
def State.underShade (s : State) (ly x : Nat) : Shade :=
  if s.lcd.backgroundOn then shadeOf s.lcd.bgp (s.underIndex ly x) else 0

/-- R49, R423: the sprite height. -/
def Display.spriteHeight (d : Display) : Nat := if d.lcdcBit 2 then 16 else 8

/-- R423: whether entry k covers line ly: `0 <= ly - (OAM[4k] - 16) < h`. -/
def State.spriteCovers (s : State) (ly k : Nat) : Bool :=
  decide ((s.oam k 0).toNat ≤ ly + 16) && decide (ly + 16 < (s.oam k 0).toNat + s.lcd.spriteHeight)

/-- R423 `select(ly)`: the first 10 entries, in table order, that cover the line. -/
def State.selectSprites (s : State) (ly : Nat) : List Nat :=
  if s.lcd.lcdcBit 1 then ((List.range 40).filter (s.spriteCovers ly)).take 10 else []

/-- R424: the row of the sprite's tile data, after the Y flip. -/
def State.spriteRow (s : State) (ly k : Nat) : Nat :=
  let r := ly + 16 - (s.oam k 0).toNat
  if (s.oam k 3).getLsbD 6 then s.lcd.spriteHeight - 1 - r else r

/-- R424: the tile; 8 × 16 sprites ignore bit 0. -/
def State.spriteTile (s : State) (k : Nat) : Byte :=
  if s.lcd.spriteHeight = 16 then s.oam k 2 &&& 0xFE else s.oam k 2

/-- R424: the sprite's column at screen column px, or `none` where the sprite is not. -/
def State.spriteColumn (s : State) (k px : Nat) : Option Nat :=
  let x := (s.oam k 1).toNat
  if x ≤ px + 8 ∧ px < x then some (px + 8 - x) else none

/-- R424: the sprite's colour index at its column col, after the X flip. -/
def State.spriteIndex (s : State) (ly k col : Nat) : Shade :=
  let c := if (s.oam k 3).getLsbD 5 then 7 - col else col
  s.pix (tileBase (s.spriteTile k) true) (s.spriteRow ly k) c

/-- R424: draw entry k at column px over the shade there. Index 0 is transparent; attribute bit 7 hides the sprite
behind a non-zero background index; attribute bit 4 selects the palette. -/
def State.drawSprite (s : State) (ly px : Nat) (shade : Shade) (k : Nat) : Shade :=
  match s.spriteColumn k px with
  | none => shade
  | some col =>
    let ci := s.spriteIndex ly k col
    if ci = 0 then shade
    else if (s.oam k 3).getLsbD 7 = true ∧ s.underIndex ly px ≠ 0 then shade
    else shadeOf (if (s.oam k 3).getLsbD 4 then s.lcd.obp1 else s.lcd.obp0) ci

/-- R418, R424: column x of the row: the layers below, then the selected sprites, last selected first. -/
def State.renderPixel (s : State) (ly x : Nat) : Shade :=
  (s.selectSprites ly).reverse.foldl (s.drawSprite ly x) (s.underShade ly x)

/-- R418: the row of line ly. -/
def State.renderRow (s : State) (ly : Nat) : List Shade := (List.range 160).map (s.renderPixel ly)

/-- R418 `render(ly)`: `FB[ly] <- row`. -/
def State.render (s : State) (ly : Nat) : State :=
  { s with lcd := { s.lcd with fb := s.lcd.fb.set ly (s.renderRow ly) } }

end Sys2Proof.Machine
end

