-- ==== Sys2Proof/Machine/Displays.lean ====
section
/-! DEFINITION. The display controller: `Display.step(t)` (R410 to R415). -/

namespace Sys2Proof.Machine

/-- R49, R410: LCDC[7]. -/
def Display.powered (d : Display) : Bool := d.lcdcBit 7

/-- R411: the T-cycles a mode lasts (mode 1: each of its lines). -/
def Mode.duration : Mode → Nat
  | .spriteScan => 80
  | .pixelTransfer => 172
  | .hblank => 204
  | .vblank => 456

/-- R413: request LCD status (source 1) if an enable bit is set. -/
def State.requestStatus (s : State) (enable : Bool) : State := if enable then s.request 1 else s

/-- R414 `compare()`: STAT bit 6 is STAT_EN[3]. -/
def State.compareLine (s : State) : State := s.requestStatus (s.lcd.ly == s.lcd.lyc && s.lcd.statEn.getLsbD 3)

/-- `mode <- m`. -/
def State.setMode (s : State) (m : Mode) : State := { s with lcd := { s.lcd with mode := m } }

/-- `LY <- v`. -/
def State.setLy (s : State) (v : Byte) : State := { s with lcd := { s.lcd with ly := v } }

/-- R412, mode 2 over: enter mode 3. -/
def State.endSpriteScan (s : State) : State := s.setMode .pixelTransfer

/-- R412, mode 3 over: render the line, enter mode 0 (STAT bit 3 is STAT_EN[0]). -/
def State.endPixelTransfer (s : State) : State :=
  let s := (s.render s.lcd.ly.toNat).setMode .hblank
  s.requestStatus (s.lcd.statEn.getLsbD 0)

/-- R412, mode 0 over: the next line; line 144 enters mode 1 and requests V-Blank (R415), the others mode 2
(STAT bit 4 is STAT_EN[1], STAT bit 5 is STAT_EN[2]). -/
def State.endHblank (s : State) : State :=
  let s := (s.setLy (s.lcd.ly + 1)).compareLine
  if s.lcd.ly = 144 then
    let s := (s.setMode .vblank).request 0
    s.requestStatus (s.lcd.statEn.getLsbD 1)
  else
    let s := s.setMode .spriteScan
    s.requestStatus (s.lcd.statEn.getLsbD 2)

/-- R412, a line of mode 1 over: the next line; after 153 line 0 and mode 2. -/
def State.endVblankLine (s : State) : State :=
  let s := s.setLy (s.lcd.ly + 1)
  if s.lcd.ly = 154 then
    let s := (s.setLy 0).setMode .spriteScan
    (s.requestStatus (s.lcd.statEn.getLsbD 2)).compareLine
  else s.compareLine

/-- R412: one turn of the loop, or `none` where it exits. -/
def State.displayTurn (s : State) : Option State :=
  if s.lcd.mode.duration ≤ s.lcd.modeClock then
    let s' := { s with lcd := { s.lcd with modeClock := s.lcd.modeClock - s.lcd.mode.duration } }
    match s.lcd.mode with
    | .spriteScan => some s'.endSpriteScan
    | .pixelTransfer => some s'.endPixelTransfer
    | .hblank => some s'.endHblank
    | .vblank => some s'.endVblankLine
  else none

/-- R412: at most n turns of the loop. -/
def displayLoop (n : Nat) (s : State) : State :=
  match n with
  | 0 => s
  | n + 1 =>
    match s.displayTurn with
    | none => s
    | some s' => displayLoop n s'

/-- R412: turns that are always enough, since the shortest mode lasts 80 T-cycles (log 13). -/
def displayTurns (clock : Nat) : Nat := clock / 80 + 1

/-- R410, R412 `Display.step(t)`. -/
def State.displayStep (s : State) (t : Nat) : State :=
  if s.lcd.powered then
    let s := { s with lcd := { s.lcd with modeClock := s.lcd.modeClock + t } }
    displayLoop (displayTurns s.lcd.modeClock) s
  else s

end Sys2Proof.Machine
end

