-- ==== Sys2Proof/WellFormed.lean ====
section
/-! DEFINITION. Which terms of `Instr` are instructions in their one canonical spelling. Every operand of
`Instr` is a byte or a word and every value of it is encodable (R131, R132), so the only check is the one below. -/

namespace Sys2Proof

/-- The row PREFIX CB is no instruction by itself: with its second byte it IS the CB instruction that byte
selects (R145, R146, R356), so `prefixCb op2` is a second spelling of that row and is not canonical (log 11). -/
def Instr.WellFormed (i : Instr) : Bool :=
  match i.form with
  | .prefixCb _ => false
  | _ => true

end Sys2Proof
end

