-- ==== Sys2Proof/Decode.lean ====
section
/-! DEFINITION. The decoder, read off the opcode maps R141 and R142 row by row (a row of the map is a high
nibble, a column a low nibble), and the encoder, written from the field encodings R131 to R140. The two come
from different passages of the spec, so that the round trip compares one with the other. -/

namespace Sys2Proof

/-! ## The CB map (R142): the second byte of a `0xCB, op` pair -/

/-- R142, row 0x. -/
def cbRow0 (lo : Nat) : Instr :=
  match lo with
  | 0 => .rlc_B
  | 1 => .rlc_C
  | 2 => .rlc_D
  | 3 => .rlc_E
  | 4 => .rlc_H
  | 5 => .rlc_L
  | 6 => .rlc_atHL
  | 7 => .rlc_A
  | 8 => .rrc_B
  | 9 => .rrc_C
  | 10 => .rrc_D
  | 11 => .rrc_E
  | 12 => .rrc_H
  | 13 => .rrc_L
  | 14 => .rrc_atHL
  | _ => .rrc_A

/-- R142, row 1x. -/
def cbRow1 (lo : Nat) : Instr :=
  match lo with
  | 0 => .rl_B
  | 1 => .rl_C
  | 2 => .rl_D
  | 3 => .rl_E
  | 4 => .rl_H
  | 5 => .rl_L
  | 6 => .rl_atHL
  | 7 => .rl_A
  | 8 => .rr_B
  | 9 => .rr_C
  | 10 => .rr_D
  | 11 => .rr_E
  | 12 => .rr_H
  | 13 => .rr_L
  | 14 => .rr_atHL
  | _ => .rr_A

/-- R142, row 2x. -/
def cbRow2 (lo : Nat) : Instr :=
  match lo with
  | 0 => .sla_B
  | 1 => .sla_C
  | 2 => .sla_D
  | 3 => .sla_E
  | 4 => .sla_H
  | 5 => .sla_L
  | 6 => .sla_atHL
  | 7 => .sla_A
  | 8 => .sra_B
  | 9 => .sra_C
  | 10 => .sra_D
  | 11 => .sra_E
  | 12 => .sra_H
  | 13 => .sra_L
  | 14 => .sra_atHL
  | _ => .sra_A

/-- R142, row 3x. -/
def cbRow3 (lo : Nat) : Instr :=
  match lo with
  | 0 => .swap_B
  | 1 => .swap_C
  | 2 => .swap_D
  | 3 => .swap_E
  | 4 => .swap_H
  | 5 => .swap_L
  | 6 => .swap_atHL
  | 7 => .swap_A
  | 8 => .srl_B
  | 9 => .srl_C
  | 10 => .srl_D
  | 11 => .srl_E
  | 12 => .srl_H
  | 13 => .srl_L
  | 14 => .srl_atHL
  | _ => .srl_A

/-- R142, row 4x. -/
def cbRow4 (lo : Nat) : Instr :=
  match lo with
  | 0 => .bit_0_B
  | 1 => .bit_0_C
  | 2 => .bit_0_D
  | 3 => .bit_0_E
  | 4 => .bit_0_H
  | 5 => .bit_0_L
  | 6 => .bit_0_atHL
  | 7 => .bit_0_A
  | 8 => .bit_1_B
  | 9 => .bit_1_C
  | 10 => .bit_1_D
  | 11 => .bit_1_E
  | 12 => .bit_1_H
  | 13 => .bit_1_L
  | 14 => .bit_1_atHL
  | _ => .bit_1_A

/-- R142, row 5x. -/
def cbRow5 (lo : Nat) : Instr :=
  match lo with
  | 0 => .bit_2_B
  | 1 => .bit_2_C
  | 2 => .bit_2_D
  | 3 => .bit_2_E
  | 4 => .bit_2_H
  | 5 => .bit_2_L
  | 6 => .bit_2_atHL
  | 7 => .bit_2_A
  | 8 => .bit_3_B
  | 9 => .bit_3_C
  | 10 => .bit_3_D
  | 11 => .bit_3_E
  | 12 => .bit_3_H
  | 13 => .bit_3_L
  | 14 => .bit_3_atHL
  | _ => .bit_3_A

/-- R142, row 6x. -/
def cbRow6 (lo : Nat) : Instr :=
  match lo with
  | 0 => .bit_4_B
  | 1 => .bit_4_C
  | 2 => .bit_4_D
  | 3 => .bit_4_E
  | 4 => .bit_4_H
  | 5 => .bit_4_L
  | 6 => .bit_4_atHL
  | 7 => .bit_4_A
  | 8 => .bit_5_B
  | 9 => .bit_5_C
  | 10 => .bit_5_D
  | 11 => .bit_5_E
  | 12 => .bit_5_H
  | 13 => .bit_5_L
  | 14 => .bit_5_atHL
  | _ => .bit_5_A

/-- R142, row 7x. -/
def cbRow7 (lo : Nat) : Instr :=
  match lo with
  | 0 => .bit_6_B
  | 1 => .bit_6_C
  | 2 => .bit_6_D
  | 3 => .bit_6_E
  | 4 => .bit_6_H
  | 5 => .bit_6_L
  | 6 => .bit_6_atHL
  | 7 => .bit_6_A
  | 8 => .bit_7_B
  | 9 => .bit_7_C
  | 10 => .bit_7_D
  | 11 => .bit_7_E
  | 12 => .bit_7_H
  | 13 => .bit_7_L
  | 14 => .bit_7_atHL
  | _ => .bit_7_A

/-- R142, row 8x. -/
def cbRow8 (lo : Nat) : Instr :=
  match lo with
  | 0 => .res_0_B
  | 1 => .res_0_C
  | 2 => .res_0_D
  | 3 => .res_0_E
  | 4 => .res_0_H
  | 5 => .res_0_L
  | 6 => .res_0_atHL
  | 7 => .res_0_A
  | 8 => .res_1_B
  | 9 => .res_1_C
  | 10 => .res_1_D
  | 11 => .res_1_E
  | 12 => .res_1_H
  | 13 => .res_1_L
  | 14 => .res_1_atHL
  | _ => .res_1_A

/-- R142, row 9x. -/
def cbRow9 (lo : Nat) : Instr :=
  match lo with
  | 0 => .res_2_B
  | 1 => .res_2_C
  | 2 => .res_2_D
  | 3 => .res_2_E
  | 4 => .res_2_H
  | 5 => .res_2_L
  | 6 => .res_2_atHL
  | 7 => .res_2_A
  | 8 => .res_3_B
  | 9 => .res_3_C
  | 10 => .res_3_D
  | 11 => .res_3_E
  | 12 => .res_3_H
  | 13 => .res_3_L
  | 14 => .res_3_atHL
  | _ => .res_3_A

/-- R142, row Ax. -/
def cbRowA (lo : Nat) : Instr :=
  match lo with
  | 0 => .res_4_B
  | 1 => .res_4_C
  | 2 => .res_4_D
  | 3 => .res_4_E
  | 4 => .res_4_H
  | 5 => .res_4_L
  | 6 => .res_4_atHL
  | 7 => .res_4_A
  | 8 => .res_5_B
  | 9 => .res_5_C
  | 10 => .res_5_D
  | 11 => .res_5_E
  | 12 => .res_5_H
  | 13 => .res_5_L
  | 14 => .res_5_atHL
  | _ => .res_5_A

/-- R142, row Bx. -/
def cbRowB (lo : Nat) : Instr :=
  match lo with
  | 0 => .res_6_B
  | 1 => .res_6_C
  | 2 => .res_6_D
  | 3 => .res_6_E
  | 4 => .res_6_H
  | 5 => .res_6_L
  | 6 => .res_6_atHL
  | 7 => .res_6_A
  | 8 => .res_7_B
  | 9 => .res_7_C
  | 10 => .res_7_D
  | 11 => .res_7_E
  | 12 => .res_7_H
  | 13 => .res_7_L
  | 14 => .res_7_atHL
  | _ => .res_7_A

/-- R142, row Cx. -/
def cbRowC (lo : Nat) : Instr :=
  match lo with
  | 0 => .set_0_B
  | 1 => .set_0_C
  | 2 => .set_0_D
  | 3 => .set_0_E
  | 4 => .set_0_H
  | 5 => .set_0_L
  | 6 => .set_0_atHL
  | 7 => .set_0_A
  | 8 => .set_1_B
  | 9 => .set_1_C
  | 10 => .set_1_D
  | 11 => .set_1_E
  | 12 => .set_1_H
  | 13 => .set_1_L
  | 14 => .set_1_atHL
  | _ => .set_1_A

/-- R142, row Dx. -/
def cbRowD (lo : Nat) : Instr :=
  match lo with
  | 0 => .set_2_B
  | 1 => .set_2_C
  | 2 => .set_2_D
  | 3 => .set_2_E
  | 4 => .set_2_H
  | 5 => .set_2_L
  | 6 => .set_2_atHL
  | 7 => .set_2_A
  | 8 => .set_3_B
  | 9 => .set_3_C
  | 10 => .set_3_D
  | 11 => .set_3_E
  | 12 => .set_3_H
  | 13 => .set_3_L
  | 14 => .set_3_atHL
  | _ => .set_3_A

/-- R142, row Ex. -/
def cbRowE (lo : Nat) : Instr :=
  match lo with
  | 0 => .set_4_B
  | 1 => .set_4_C
  | 2 => .set_4_D
  | 3 => .set_4_E
  | 4 => .set_4_H
  | 5 => .set_4_L
  | 6 => .set_4_atHL
  | 7 => .set_4_A
  | 8 => .set_5_B
  | 9 => .set_5_C
  | 10 => .set_5_D
  | 11 => .set_5_E
  | 12 => .set_5_H
  | 13 => .set_5_L
  | 14 => .set_5_atHL
  | _ => .set_5_A

/-- R142, row Fx. -/
def cbRowF (lo : Nat) : Instr :=
  match lo with
  | 0 => .set_6_B
  | 1 => .set_6_C
  | 2 => .set_6_D
  | 3 => .set_6_E
  | 4 => .set_6_H
  | 5 => .set_6_L
  | 6 => .set_6_atHL
  | 7 => .set_6_A
  | 8 => .set_7_B
  | 9 => .set_7_C
  | 10 => .set_7_D
  | 11 => .set_7_E
  | 12 => .set_7_H
  | 13 => .set_7_L
  | 14 => .set_7_atHL
  | _ => .set_7_A

/-- R142, R145: `CB_TABLE[op2]`; all 256 values are defined (R140, R144). -/
def decodeCb (op2 : Byte) : Instr :=
  let lo := op2.toNat % 16
  match op2.toNat / 16 with
  | 0 => cbRow0 lo
  | 1 => cbRow1 lo
  | 2 => cbRow2 lo
  | 3 => cbRow3 lo
  | 4 => cbRow4 lo
  | 5 => cbRow5 lo
  | 6 => cbRow6 lo
  | 7 => cbRow7 lo
  | 8 => cbRow8 lo
  | 9 => cbRow9 lo
  | 10 => cbRowA lo
  | 11 => cbRowB lo
  | 12 => cbRowC lo
  | 13 => cbRowD lo
  | 14 => cbRowE lo
  | _ => cbRowF lo

/-! ## The primary map (R141) -/

/-- R141, row 0x. -/
def primaryRow0 (lo : Nat) (n8 : Byte) (n16 : Word) : Instr :=
  match lo with
  | 0 => .nop
  | 1 => .ld_BC_n16 n16
  | 2 => .ld_atBC_A
  | 3 => .inc_BC
  | 4 => .inc_B
  | 5 => .dec_B
  | 6 => .ld_B_n8 n8
  | 7 => .rlca
  | 8 => .ld_atN16_SP n16
  | 9 => .add_HL_BC
  | 10 => .ld_A_atBC
  | 11 => .dec_BC
  | 12 => .inc_C
  | 13 => .dec_C
  | 14 => .ld_C_n8 n8
  | _ => .rrca

/-- R141, row 1x. -/
def primaryRow1 (lo : Nat) (n8 : Byte) (n16 : Word) : Instr :=
  match lo with
  | 0 => .stop n8
  | 1 => .ld_DE_n16 n16
  | 2 => .ld_atDE_A
  | 3 => .inc_DE
  | 4 => .inc_D
  | 5 => .dec_D
  | 6 => .ld_D_n8 n8
  | 7 => .rla
  | 8 => .jr_e8 n8
  | 9 => .add_HL_DE
  | 10 => .ld_A_atDE
  | 11 => .dec_DE
  | 12 => .inc_E
  | 13 => .dec_E
  | 14 => .ld_E_n8 n8
  | _ => .rra

/-- R141, row 2x. -/
def primaryRow2 (lo : Nat) (n8 : Byte) (n16 : Word) : Instr :=
  match lo with
  | 0 => .jr_NZ_e8 n8
  | 1 => .ld_HL_n16 n16
  | 2 => .ld_atHLinc_A
  | 3 => .inc_HL
  | 4 => .inc_H
  | 5 => .dec_H
  | 6 => .ld_H_n8 n8
  | 7 => .daa
  | 8 => .jr_Z_e8 n8
  | 9 => .add_HL_HL
  | 10 => .ld_A_atHLinc
  | 11 => .dec_HL
  | 12 => .inc_L
  | 13 => .dec_L
  | 14 => .ld_L_n8 n8
  | _ => .cpl

/-- R141, row 3x. -/
def primaryRow3 (lo : Nat) (n8 : Byte) (n16 : Word) : Instr :=
  match lo with
  | 0 => .jr_NC_e8 n8
  | 1 => .ld_SP_n16 n16
  | 2 => .ld_atHLdec_A
  | 3 => .inc_SP
  | 4 => .inc_atHL
  | 5 => .dec_atHL
  | 6 => .ld_atHL_n8 n8
  | 7 => .scf
  | 8 => .jr_C_e8 n8
  | 9 => .add_HL_SP
  | 10 => .ld_A_atHLdec
  | 11 => .dec_SP
  | 12 => .inc_A
  | 13 => .dec_A
  | 14 => .ld_A_n8 n8
  | _ => .ccf

/-- R141, row 4x. -/
def primaryRow4 (lo : Nat) : Instr :=
  match lo with
  | 0 => .ld_B_B
  | 1 => .ld_B_C
  | 2 => .ld_B_D
  | 3 => .ld_B_E
  | 4 => .ld_B_H
  | 5 => .ld_B_L
  | 6 => .ld_B_atHL
  | 7 => .ld_B_A
  | 8 => .ld_C_B
  | 9 => .ld_C_C
  | 10 => .ld_C_D
  | 11 => .ld_C_E
  | 12 => .ld_C_H
  | 13 => .ld_C_L
  | 14 => .ld_C_atHL
  | _ => .ld_C_A

/-- R141, row 5x. -/
def primaryRow5 (lo : Nat) : Instr :=
  match lo with
  | 0 => .ld_D_B
  | 1 => .ld_D_C
  | 2 => .ld_D_D
  | 3 => .ld_D_E
  | 4 => .ld_D_H
  | 5 => .ld_D_L
  | 6 => .ld_D_atHL
  | 7 => .ld_D_A
  | 8 => .ld_E_B
  | 9 => .ld_E_C
  | 10 => .ld_E_D
  | 11 => .ld_E_E
  | 12 => .ld_E_H
  | 13 => .ld_E_L
  | 14 => .ld_E_atHL
  | _ => .ld_E_A

/-- R141, row 6x. -/
def primaryRow6 (lo : Nat) : Instr :=
  match lo with
  | 0 => .ld_H_B
  | 1 => .ld_H_C
  | 2 => .ld_H_D
  | 3 => .ld_H_E
  | 4 => .ld_H_H
  | 5 => .ld_H_L
  | 6 => .ld_H_atHL
  | 7 => .ld_H_A
  | 8 => .ld_L_B
  | 9 => .ld_L_C
  | 10 => .ld_L_D
  | 11 => .ld_L_E
  | 12 => .ld_L_H
  | 13 => .ld_L_L
  | 14 => .ld_L_atHL
  | _ => .ld_L_A

/-- R141, row 7x. -/
def primaryRow7 (lo : Nat) : Instr :=
  match lo with
  | 0 => .ld_atHL_B
  | 1 => .ld_atHL_C
  | 2 => .ld_atHL_D
  | 3 => .ld_atHL_E
  | 4 => .ld_atHL_H
  | 5 => .ld_atHL_L
  | 6 => .halt
  | 7 => .ld_atHL_A
  | 8 => .ld_A_B
  | 9 => .ld_A_C
  | 10 => .ld_A_D
  | 11 => .ld_A_E
  | 12 => .ld_A_H
  | 13 => .ld_A_L
  | 14 => .ld_A_atHL
  | _ => .ld_A_A

/-- R141, row 8x. -/
def primaryRow8 (lo : Nat) : Instr :=
  match lo with
  | 0 => .add_A_B
  | 1 => .add_A_C
  | 2 => .add_A_D
  | 3 => .add_A_E
  | 4 => .add_A_H
  | 5 => .add_A_L
  | 6 => .add_A_atHL
  | 7 => .add_A_A
  | 8 => .adc_A_B
  | 9 => .adc_A_C
  | 10 => .adc_A_D
  | 11 => .adc_A_E
  | 12 => .adc_A_H
  | 13 => .adc_A_L
  | 14 => .adc_A_atHL
  | _ => .adc_A_A

/-- R141, row 9x. -/
def primaryRow9 (lo : Nat) : Instr :=
  match lo with
  | 0 => .sub_B
  | 1 => .sub_C
  | 2 => .sub_D
  | 3 => .sub_E
  | 4 => .sub_H
  | 5 => .sub_L
  | 6 => .sub_atHL
  | 7 => .sub_A
  | 8 => .sbc_A_B
  | 9 => .sbc_A_C
  | 10 => .sbc_A_D
  | 11 => .sbc_A_E
  | 12 => .sbc_A_H
  | 13 => .sbc_A_L
  | 14 => .sbc_A_atHL
  | _ => .sbc_A_A

/-- R141, row Ax. -/
def primaryRowA (lo : Nat) : Instr :=
  match lo with
  | 0 => .and_B
  | 1 => .and_C
  | 2 => .and_D
  | 3 => .and_E
  | 4 => .and_H
  | 5 => .and_L
  | 6 => .and_atHL
  | 7 => .and_A
  | 8 => .xor_B
  | 9 => .xor_C
  | 10 => .xor_D
  | 11 => .xor_E
  | 12 => .xor_H
  | 13 => .xor_L
  | 14 => .xor_atHL
  | _ => .xor_A

/-- R141, row Bx. -/
def primaryRowB (lo : Nat) : Instr :=
  match lo with
  | 0 => .or_B
  | 1 => .or_C
  | 2 => .or_D
  | 3 => .or_E
  | 4 => .or_H
  | 5 => .or_L
  | 6 => .or_atHL
  | 7 => .or_A
  | 8 => .cp_B
  | 9 => .cp_C
  | 10 => .cp_D
  | 11 => .cp_E
  | 12 => .cp_H
  | 13 => .cp_L
  | 14 => .cp_atHL
  | _ => .cp_A

/-- R141, row Cx; column B is the prefix, whose second byte is `n8` (R145, R146). -/
def primaryRowC (lo : Nat) (n8 : Byte) (n16 : Word) : Instr :=
  match lo with
  | 0 => .ret_NZ
  | 1 => .pop_BC
  | 2 => .jp_NZ_n16 n16
  | 3 => .jp_n16 n16
  | 4 => .call_NZ_n16 n16
  | 5 => .push_BC
  | 6 => .add_A_n8 n8
  | 7 => .rst_00
  | 8 => .ret_Z
  | 9 => .ret
  | 10 => .jp_Z_n16 n16
  | 11 => decodeCb n8
  | 12 => .call_Z_n16 n16
  | 13 => .call_n16 n16
  | 14 => .adc_A_n8 n8
  | _ => .rst_08

/-- R141, row Dx. -/
def primaryRowD (lo : Nat) (n8 : Byte) (n16 : Word) : Instr :=
  match lo with
  | 0 => .ret_NC
  | 1 => .pop_DE
  | 2 => .jp_NC_n16 n16
  | 3 => .illegal_D3
  | 4 => .call_NC_n16 n16
  | 5 => .push_DE
  | 6 => .sub_n8 n8
  | 7 => .rst_10
  | 8 => .ret_C
  | 9 => .reti
  | 10 => .jp_C_n16 n16
  | 11 => .illegal_DB
  | 12 => .call_C_n16 n16
  | 13 => .illegal_DD
  | 14 => .sbc_A_n8 n8
  | _ => .rst_18

/-- R141, row Ex. -/
def primaryRowE (lo : Nat) (n8 : Byte) (n16 : Word) : Instr :=
  match lo with
  | 0 => .ldh_atN8_A n8
  | 1 => .pop_HL
  | 2 => .ld_atC_A
  | 3 => .illegal_E3
  | 4 => .illegal_E4
  | 5 => .push_HL
  | 6 => .and_n8 n8
  | 7 => .rst_20
  | 8 => .add_SP_e8 n8
  | 9 => .jp_HL
  | 10 => .ld_atN16_A n16
  | 11 => .illegal_EB
  | 12 => .illegal_EC
  | 13 => .illegal_ED
  | 14 => .xor_n8 n8
  | _ => .rst_28

/-- R141, row Fx. -/
def primaryRowF (lo : Nat) (n8 : Byte) (n16 : Word) : Instr :=
  match lo with
  | 0 => .ldh_A_atN8 n8
  | 1 => .pop_AF
  | 2 => .ld_A_atC
  | 3 => .di
  | 4 => .illegal_F4
  | 5 => .push_AF
  | 6 => .or_n8 n8
  | 7 => .rst_30
  | 8 => .ld_HL_SPplusE8 n8
  | 9 => .ld_SP_HL
  | 10 => .ld_A_atN16 n16
  | 11 => .ei
  | 12 => .illegal_FC
  | 13 => .illegal_FD
  | 14 => .cp_n8 n8
  | _ => .rst_38

/-- R145: the instruction whose opcode byte is `op` and whose next bytes are `b1` and `b2`; a byte beyond the
instruction's length is not looked at. `n8` and `e8` are byte 1, `n16` is `byte2 ++ byte1` (R131, R132). -/
def decodeBytes (op b1 b2 : Byte) : Instr :=
  let lo := op.toNat % 16
  let n16 := joinBytes b2 b1
  match op.toNat / 16 with
  | 0 => primaryRow0 lo b1 n16
  | 1 => primaryRow1 lo b1 n16
  | 2 => primaryRow2 lo b1 n16
  | 3 => primaryRow3 lo b1 n16
  | 4 => primaryRow4 lo
  | 5 => primaryRow5 lo
  | 6 => primaryRow6 lo
  | 7 => primaryRow7 lo
  | 8 => primaryRow8 lo
  | 9 => primaryRow9 lo
  | 10 => primaryRowA lo
  | 11 => primaryRowB lo
  | 12 => primaryRowC lo b1 n16
  | 13 => primaryRowD lo b1 n16
  | 14 => primaryRowE lo b1 n16
  | _ => primaryRowF lo b1 n16

/-! ## Lengths (R130, R131) -/

/-- The opcodes of format `op_n16`. -/
def threeByteOpcodes : List Byte := [0x01, 0x08, 0x11, 0x21, 0x31, 0xC2, 0xC3, 0xC4, 0xCA, 0xCC, 0xCD, 0xD2,
  0xD4, 0xDA, 0xDC, 0xEA, 0xFA]

/-- The opcodes of formats `op_n8` and `op_e8` (STOP among them, R131), and the prefix 0xCB. -/
def twoByteOpcodes : List Byte := [0x06, 0x0E, 0x10, 0x16, 0x18, 0x1E, 0x20, 0x26, 0x28, 0x2E, 0x30, 0x36,
  0x38, 0x3E, 0xC6, 0xCB, 0xCE, 0xD6, 0xDE, 0xE0, 0xE6, 0xE8, 0xEE, 0xF0,
  0xF6, 0xF8, 0xFE]

/-- R130: the length of an instruction, from its first byte alone (R145). -/
def instrLength (op : Byte) : Nat :=
  if op ∈ threeByteOpcodes then 3 else if op ∈ twoByteOpcodes then 2 else 1

/-- R143: the 11 opcode values with no instruction. -/
def illegalOpcodes : List Byte := [0xD3, 0xDB, 0xDD, 0xE3, 0xE4, 0xEB, 0xEC, 0xED, 0xF4, 0xFC, 0xFD]

/-- Why a list of bytes holds no instruction. -/
inductive DecodeError where
  /-- there is no byte -/
  | noBytes
  /-- the list ends inside the instruction that this opcode begins -/
  | truncated (opcode : Byte)
  deriving DecidableEq, Repr

/-- The instruction at the head of a list of bytes, and the bytes after it. Every opcode value selects a row
(R393); the illegal ones select the rows of R357, whose meaning raises the fatal error. -/
def decode : List Byte → Except DecodeError (Instr × List Byte)
  | [] => .error .noBytes
  | [op] => if instrLength op = 1 then .ok (decodeBytes op 0 0, []) else .error (.truncated op)
  | [op, b1] =>
    if instrLength op = 1 then .ok (decodeBytes op 0 0, [b1])
    else if instrLength op = 2 then .ok (decodeBytes op b1 0, [])
    else .error (.truncated op)
  | op :: b1 :: b2 :: rest =>
    if instrLength op = 1 then .ok (decodeBytes op 0 0, b1 :: b2 :: rest)
    else if instrLength op = 2 then .ok (decodeBytes op b1 0, b2 :: rest)
    else .ok (decodeBytes op b1 b2, rest)

/-! ## The encoder, from the fields (R131 to R140) -/

/-- R134: the field code of an 8-bit register. -/
def Reg8.code : Reg8 → BitVec 3
  | .B => 0b000 | .C => 0b001 | .D => 0b010 | .E => 0b011 | .H => 0b100 | .L => 0b101 | .A => 0b111

/-- R134: the code of the memory operand (HL). -/
def codeAtHL : BitVec 3 := 0b110

/-- R135, R136: the field code of a pair; SP and AF share code 11 in their two tables. -/
def Pair.code : Pair → BitVec 2
  | .BC => 0b00 | .DE => 0b01 | .HL => 0b10 | .SP => 0b11 | .AF => 0b11

/-- R137. -/
def Cond.code : Cond → BitVec 2
  | .NZ => 0b00 | .Z => 0b01 | .NC => 0b10 | .C => 0b11

/-- R138. -/
def AluOp.code : AluOp → BitVec 3
  | .add => 0b000 | .adc => 0b001 | .sub => 0b010 | .sbc => 0b011 | .and => 0b100 | .xor => 0b101 | .or => 0b110
  | .cp => 0b111

/-- R140, R281. -/
def ShiftOp.code : ShiftOp → BitVec 3
  | .rlc => 0b000 | .rrc => 0b001 | .rl => 0b010 | .rr => 0b011 | .sla => 0b100 | .sra => 0b101 | .swap => 0b110
  | .srl => 0b111

/-- A bit index or restart number as a 3-bit field (R139, R140). -/
def indexCode (b : Fin 8) : BitVec 3 := BitVec.ofNat 3 b.val

/-- R133: an opcode byte from its fields x, y, z. -/
def opXYZ (x : BitVec 2) (y z : BitVec 3) : Byte := x ++ y ++ z

/-- R131 format `op_n16`: the low byte first. -/
def bytes16 (n : Word) : List Byte := [lowByte n, highByte n]

/-- The bytes of each form, from the `Encoding` line of its rule. -/
def Form.encode : Form → List Byte
  | .ldRegReg d r => [opXYZ 0b01 d.code r.code]
  | .ldRegImm d n8 => [opXYZ 0b00 d.code 0b110, n8]
  | .ldRegAtHL d => [opXYZ 0b01 d.code codeAtHL]
  | .ldAtHLReg r => [opXYZ 0b01 codeAtHL r.code]
  | .ldAtHLImm n8 => [0x36, n8]
  | .ldAAtPair p => [opXYZ 0b00 (p.code ++ 1#1) 0b010]
  | .ldAtPairA p => [opXYZ 0b00 (p.code ++ 0#1) 0b010]
  | .ldAAtImm n16 => 0xFA :: bytes16 n16
  | .ldAtImmA n16 => 0xEA :: bytes16 n16
  | .ldhAAtImm n8 => [0xF0, n8]
  | .ldhAtImmA n8 => [0xE0, n8]
  | .ldAAtC => [0xF2]
  | .ldAtCA => [0xE2]
  | .ldAtHLincA => [0x22]
  | .ldAtHLdecA => [0x32]
  | .ldAAtHLinc => [0x2A]
  | .ldAAtHLdec => [0x3A]
  | .ldPairImm rr n16 => opXYZ 0b00 (rr.code ++ 0#1) 0b001 :: bytes16 n16
  | .ldAtImmSP n16 => 0x08 :: bytes16 n16
  | .ldSPHL => [0xF9]
  | .ldHLSPe8 e8 => [0xF8, e8]
  | .push qq => [opXYZ 0b11 (qq.code ++ 0#1) 0b101]
  | .pop qq => [opXYZ 0b11 (qq.code ++ 0#1) 0b001]
  | .aluReg op r => [opXYZ 0b10 op.code r.code]
  | .aluAtHL op => [opXYZ 0b10 op.code codeAtHL]
  | .aluImm op n8 => [opXYZ 0b11 op.code 0b110, n8]
  | .incReg r => [opXYZ 0b00 r.code 0b100]
  | .incAtHL => [0x34]
  | .decReg r => [opXYZ 0b00 r.code 0b101]
  | .decAtHL => [0x35]
  | .daa => [0x27]
  | .cpl => [0x2F]
  | .scf => [0x37]
  | .ccf => [0x3F]
  | .addHLPair rr => [opXYZ 0b00 (rr.code ++ 1#1) 0b001]
  | .incPair rr => [opXYZ 0b00 (rr.code ++ 0#1) 0b011]
  | .decPair rr => [opXYZ 0b00 (rr.code ++ 1#1) 0b011]
  | .addSPe8 e8 => [0xE8, e8]
  | .rotA op => [opXYZ 0b00 op.code 0b111]
  | .shiftReg op r => [0xCB, opXYZ 0b00 op.code r.code]
  | .shiftAtHL op => [0xCB, opXYZ 0b00 op.code codeAtHL]
  | .bitReg b r => [0xCB, opXYZ 0b01 (indexCode b) r.code]
  | .bitAtHL b => [0xCB, opXYZ 0b01 (indexCode b) codeAtHL]
  | .resReg b r => [0xCB, opXYZ 0b10 (indexCode b) r.code]
  | .resAtHL b => [0xCB, opXYZ 0b10 (indexCode b) codeAtHL]
  | .setReg b r => [0xCB, opXYZ 0b11 (indexCode b) r.code]
  | .setAtHL b => [0xCB, opXYZ 0b11 (indexCode b) codeAtHL]
  | .jp n16 => 0xC3 :: bytes16 n16
  | .jpCond cc n16 => opXYZ 0b11 (0#1 ++ cc.code) 0b010 :: bytes16 n16
  | .jpHL => [0xE9]
  | .jr e8 => [0x18, e8]
  | .jrCond cc e8 => [opXYZ 0b00 (1#1 ++ cc.code) 0b000, e8]
  | .call n16 => 0xCD :: bytes16 n16
  | .callCond cc n16 => opXYZ 0b11 (0#1 ++ cc.code) 0b100 :: bytes16 n16
  | .ret => [0xC9]
  | .retCond cc => [opXYZ 0b11 (0#1 ++ cc.code) 0b000]
  | .reti => [0xD9]
  | .rst t => [opXYZ 0b11 (indexCode t) 0b111]
  | .nop => [0x00]
  | .halt => [0x76]
  | .stop n8 => [0x10, n8]
  | .di => [0xF3]
  | .ei => [0xFB]
  | .prefixCb op2 => [0xCB, op2]
  | .illegal op => [op]

/-- The bytes of an instruction. -/
def encode (i : Instr) : List Byte := i.form.encode

/-! ## The opcode table's words -/

/-- The bytes that a word of spec/opcode_table.json stands for, padded with zero bytes to the longest length.
The low byte is the first byte. The table numbers its CB rows the other way: their two bytes are "read first
byte high" (30_encoding), so a 16-bit word whose HIGH byte is 0xCB is that pair (log 9). -/
def tableBytes (nbits w : Nat) : List Byte :=
  if nbits = 16 ∧ w % 256 ≠ 0xCB ∧ w / 256 % 256 = 0xCB then [0xCB, BitVec.ofNat 8 w, 0]
  else [BitVec.ofNat 8 w, BitVec.ofNat 8 (w / 256), BitVec.ofNat 8 (w / 65536)]

/-- The instruction the decoder reads from a word of the opcode table. -/
def decodeTableWord (nbits w : Nat) : Option Instr :=
  match decode (tableBytes nbits (w % 2 ^ nbits)) with
  | .ok (i, _) => some i
  | .error _ => none

end Sys2Proof
end

