-- ==== Sys2Proof/Machine/Fetch.lean ====
section
/-! DEFINITION. Fetch and decode (R145), and placing bytes where the next instruction is fetched. -/

namespace Sys2Proof.Machine

/-- R145: fetch an instruction with its operand bytes, in address order; PC ends past it. -/
def State.fetch (s : State) : Act (Instr × State) := do
  let (op, s) ← s.fetch8
  if instrLength op = 1 then
    return (decodeBytes op 0 0, s)
  else
    let (b1, s) ← s.fetch8
    if instrLength op = 2 then
      return (decodeBytes op b1 0, s)
    else
      let (b2, s) ← s.fetch8
      return (decodeBytes op b1 b2, s)

/-- Lay bytes from an offset of an image on. -/
def Memory.place (m : Memory) : Nat → List Byte → Memory
  | _, [] => m
  | key, b :: rest => Memory.place (m.write key b) (key + 1) rest

/-- Put bytes into the cartridge at an address below 0x8000; a cartridge with no image of its own is replaced by a
non-banked one (log 15). -/
def Cart.insert (c : Cart) (addr : Word) (bytes : List Byte) : Cart :=
  match c with
  | .none => .nonBanked (Memory.place [] addr.toNat bytes)
  | .nonBanked image => .nonBanked (image.place addr.toNat bytes)
  | .banked image bank => .banked (image.place (bankedOffset bank addr) bytes) bank
  | .other _ _ => .nonBanked (Memory.place [] addr.toNat bytes)

/-- Whether the bytes from PC on lie in one cartridge window that a bank does not split. -/
def fetchesFromCart (pc : Word) : Bool := decide (pc.toNat < 0x3FFE) || (decide (0x4000 ≤ pc.toNat) && decide (pc.toNat < 0x7FFE))

/-- Whether the bytes from PC on lie in VRAM, WRAM or HRAM. -/
def fetchesFromStore (pc : Word) : Bool :=
  (decide (0x8000 ≤ pc.toNat) && decide (pc.toNat < 0x9FFE)) || (decide (0xC000 ≤ pc.toNat) && decide (pc.toNat < 0xDFFE)) ||
    (decide (0xFF80 ≤ pc.toNat) && decide (pc.toNat < 0xFFFD))

/-- Store three bytes where the next instruction is fetched. Where the bytes at PC cannot be chosen (I/O registers,
the unusable band, a window's end) PC goes to the entry point 0x0100 (R471) and they are placed there (log 15). -/
def State.placeCode (s : State) (bytes : List Byte) : State :=
  if fetchesFromCart s.regs.pc then { s with cart := s.cart.insert s.regs.pc bytes }
  else if fetchesFromStore s.regs.pc then { s with mem := s.mem.place s.regs.pc.toNat bytes }
  else { s.setPc 0x0100 with cart := s.cart.insert 0x0100 bytes }

end Sys2Proof.Machine
end

