-- ==== Sys2Proof/Machine/Timers.lean ====
section
/-! DEFINITION. The timer and divider: `Timer.step(t)` (R400 to R402). The loops of R400 and R401 run once for each
whole period in the accumulator, so they are written as that many turns (log 13). -/

namespace Sys2Proof.Machine

/-- n turns of a loop body. -/
def turns (n : Nat) (body : State → State) (s : State) : State :=
  match n with
  | 0 => s
  | n + 1 => turns n body (body s)

/-- R400: one increment of the divider, modulo 256. -/
def State.divTick (s : State) : State := { s with timer := { s.timer with div := s.timer.div + 1 } }

/-- R400: the divider always runs. -/
def State.advanceDivider (s : State) (t : Nat) : State :=
  let acc := s.timer.divAcc + t
  turns (acc / Config.divPeriod) State.divTick { s with timer := { s.timer with divAcc := acc % Config.divPeriod } }

/-- R401, R402: one increment of the counter; past 0xFF it is loaded from TMA and the timer requests source 2. -/
def State.timaTick (s : State) : State :=
  if s.timer.tima = 0xFF then { s with timer := { s.timer with tima := s.timer.tma } }.request 2
  else { s with timer := { s.timer with tima := s.timer.tima + 1 } }

/-- R47, R401: the period that TAC[1:0] selects. -/
def Timer.period (t : Timer) : Nat := Config.timaPeriod (t.tac.extractLsb' 0 2)

/-- R47: TAC[2]. -/
def Timer.enabled (t : Timer) : Bool := t.tac.getLsbD 2

/-- R401: the counter advances only while enabled. -/
def State.advanceCounter (s : State) (t : Nat) : State :=
  if s.timer.enabled then
    let acc := s.timer.timaAcc + t
    let period := s.timer.period
    turns (acc / period) State.timaTick { s with timer := { s.timer with timaAcc := acc % period } }
  else s

/-- R399 to R401 `Timer.step(t)`: the divider, then the counter. -/
def State.timerStep (s : State) (t : Nat) : State := (s.advanceDivider t).advanceCounter t

end Sys2Proof.Machine
end

