-- ==== Sys2Proof/Machine/Cycle.lean ====
section
/-! DEFINITION. The parts of one turn of the driver's loop (R399): samples of the host's input, one CPU step (R392),
then the timer and the display by the T-cycles that step returned. Step.lean puts them together.

INPUT is free at every read of 0xFF00 (R472, D47). A step reads that address at most twice, once in its fetch and once
in what the instruction does, so it takes one sample before each (log 4). -/

namespace Sys2Proof.Machine

/-- R105, R472: the host's next value of INPUT, if there is one (log 4). -/
def State.sampleInput (s : State) : State :=
  match s.inputQueue with
  | [] => s
  | sample :: rest => { s with input := sample, inputQueue := rest }

/-- R392, stages (c) and (d): idle while halted, else fetch and execute one instruction, which sees INPUT anew (R472). -/
def cpuExecute (s : State) : Result :=
  if s.ints.halted then finish Config.haltCost s
  else
    match s.fetch with
    | .ok (i, s) => exec i s.sampleInput
    | .error s => .next s

/-- R392: the CPU step: (a) the delay tick, (b) the interrupt try and dispatch, (c) and (d) as above. -/
def cpuStep (s : State) : Result :=
  let s := s.tickDelays
  match s.ints.selected with
  | some i => perform Config.irqCost ((s.acknowledge i).dispatch i)
  | none => cpuExecute s

/-- R399: `Timer.step(T_PER_M × m)`, then `Display.step(T_PER_M × m)`. -/
def State.advanceDevices (s : State) (m : Nat) : State :=
  (s.timerStep (Config.tPerM * m)).displayStep (Config.tPerM * m)

/-- R371, R396: a step that ended in the fatal state returned no cost and advances no device. -/
def State.afterCpu (s : State) : State :=
  match s.run with
  | .running => s.advanceDevices s.cost
  | .fatal _ => s

/-- What would keep the next step from fetching, taken away: the fatal state, the halted flag, and a request that
would be dispatched (log 15). -/
def State.readyToFetch (s : State) : State :=
  let s := { s with run := .running, ints := { s.ints with halted := false } }
  match s.tickDelays.ints.selected with
  | none => s
  | some _ => { s with ints := { s.ints with iflag := s.ints.iflag &&& ~~~s.ints.ie } }

end Sys2Proof.Machine
end

