-- ==== Sys2Proof/Machine/Step.lean ====
section
/-! DEFINITION. One turn of the driver's loop (R399) as the machine's step (log 10). -/

namespace Sys2Proof.Machine

/-- One step of the machine. In the fatal state no further step is taken (R41). -/
def step (s : State) : Host.Outcome State Fault Refusal :=
  match s.run with
  | .fatal k => .fault (.fatalState k)
  | .running =>
    match cpuStep s.sampleInput with
    | .next s' => .next s'.afterCpu
    | .fault f => .fault f
    | .refused r => .refused r

/-- The state with an instruction of the opcode table placed where the next step fetches it (log 15). -/
def State.withFetchWord (s : State) (nbits w : Nat) : State :=
  s.readyToFetch.placeCode (tableBytes nbits (w % 2 ^ nbits))

end Sys2Proof.Machine
end

