-- ==== Sys2Proof/Safety.lean ====
section
/-! DEFINITION. What counts as a safe run, and the terms claims are stated in: the invariant every step keeps, the end
of a run (R475), which accesses a cartridge accepts (R101), what a form reads, stores to and changes, and the flags
and cycles columns of the opcode table. Nothing here is used by the machine. -/

namespace Sys2Proof.Machine

/-! ## Safe states and the end of a run -/

/-- R41: the machine is running. A run is safe while no fatal error has been raised. -/
def State.safe (s : State) : Prop := s.run = .running

/-- R475: END, `halted = true` and `IE = 0x00`. -/
def State.atEnd (s : State) : Prop := s.ints.halted = true ∧ s.ints.ie = 0

/-! ## The invariant -/

/-- R40, R104: the bus addresses at which the block stores a byte. The echo, the unusable band, the cartridge's windows
and the registers with an owner are not among them. -/
def storedKey (k : Nat) : Prop :=
  (0x8000 ≤ k ∧ k < 0xA000) ∨ (0xC000 ≤ k ∧ k < 0xE000) ∨ (0xFE00 ≤ k ∧ k < 0xFEA0) ∨
    (0xFF00 ≤ k ∧ k < 0xFF80 ∧ ioReg (BitVec.ofNat 16 k) = .plain) ∨ (0xFF80 ≤ k ∧ k < 0xFFFF)

/-- R113: a cartridge with an image holds it in canonical form, and its selected bank is never 0. -/
def Cart.canonical (c : Cart) : Prop :=
  match c with
  | .none => True
  | .nonBanked image => image.wf = true
  | .banked image bank => image.wf = true ∧ bank ≠ 0
  | .other _ _ => True

/-- What every step keeps true. -/
structure State.Inv (s : State) : Prop where
  /-- memory is in its one canonical form -/
  memCanonical : s.mem.wf = true
  /-- and lists only bytes the block stores (R40) -/
  memKeys : ∀ cell ∈ s.mem, storedKey cell.1
  cartCanonical : s.cart.canonical
  /-- R32: "undefined flag bits are always zero" -/
  flagsLow : s.regs.f &&& 0x0F = 0
  /-- R38: div_acc in 0..DIV_PERIOD−1 -/
  divPhase : s.timer.divAcc < Config.divPeriod
  /-- R47, R404: tima_acc stays below the selected period -/
  timaPhase : s.timer.timaAcc < s.timer.period
  /-- R39: LY in 0..153 -/
  lineRange : s.lcd.ly.toNat ≤ 153
  /-- R411: mode 1 on lines 144..153 and no other -/
  lineMode : s.lcd.mode = .vblank ↔ 144 ≤ s.lcd.ly.toNat
  /-- R412: the loop exits below the mode's duration -/
  modePhase : s.lcd.modeClock < s.lcd.mode.duration
  /-- R410, R416: while the display is off it stands as the power-off reset left it -/
  powerOff : s.lcd.powered = false → s.lcd.mode = .hblank ∧ s.lcd.ly = 0 ∧ s.lcd.modeClock = 0 ∧ s.lcd.fb = blankFrame
  /-- R426: 144 rows of 160 -/
  frameRows : s.lcd.fb.length = 144
  frameColumns : ∀ row ∈ s.lcd.fb, row.length = 160
  /-- R412: every step is at most 6 M-cycles -/
  costBound : s.cost ≤ 6

/-! ## Accesses -/

/-- R101: whether a write of v at an address completes: only a cartridge can decline one, for itself or as the source
of a DMA copy (R102). -/
def State.accepts (s : State) (addr : Word) (v : Byte) : Bool :=
  match region addr with
  | .cart => (s.cart.write addr v).isSome
  | .io .dma => (List.range 160).all fun i => (s.busRead (joinBytes v 0 + BitVec.ofNat 16 i)).isSome
  | _ => true

/-- R11, R101: whether both byte writes of a word complete, low byte first. -/
def State.acceptsWord (s : State) (addr : Word) (v : Word) : Bool :=
  s.accepts addr (lowByte v) &&
    match s.writeByte addr (lowByte v) with
    | .ok t => t.accepts (addr + 1) (highByte v)
    | .error _ => false

/-- R92, R110: whether a write at one address may change what a read of another gives. -/
def affects (written read : Word) : Bool :=
  match region written with
  | .cart => decide (region read = .cart)
  | .store key => decide (region read = .store key)
  | .unusable => false
  | .io .ly => false
  | .io .lcdc => decide (read = 0xFF40) || decide (read = 0xFF41) || decide (read = 0xFF44)
  | .io .lyc => decide (read = 0xFF41) || decide (read = 0xFF45)
  | .io .dma => decide (read = 0xFF46) || (decide (0xFE00 ≤ read.toNat) && decide (read.toNat < 0xFEA0))
  | .io _ => decide (read = written)
  | .ie => decide (read = 0xFFFF)

/-- t is s with other registers and the given step cost: memory, the devices, the interrupt controller, the cartridge
and the run state are as they were. -/
def State.changedRegs (s t : State) (m : Nat) : Prop := t = { s with regs := t.regs, cost := m }

/-- The 8-bit registers other than those listed, SP and PC are as they were. -/
def State.keepsRegsBut (s t : State) (changed : List Reg8) : Prop :=
  (∀ r, r ∉ changed → t.reg r = s.reg r) ∧ t.regs.sp = s.regs.sp ∧ t.regs.pc = s.regs.pc

/-- R10: F holds these four flags and a zero low nibble. -/
def State.flagsAre (t : State) (z n h c : Bool) : Prop :=
  t.flagZ = z ∧ t.flagN = n ∧ t.flagH = h ∧ t.flagC = c ∧ t.regs.f &&& 0x0F = 0

/-- The three operand forms of an ALU operation (R220): instruction i has operation op, operand byte b and cost m. -/
def aluOperand (i : Instr) (s : State) (op : AluOp) (b : Byte) (m : Nat) : Prop :=
  (∃ r, i.form = .aluReg op r ∧ b = s.reg r ∧ m = 1) ∨
    (i.form = .aluAtHL op ∧ s.busRead s.hl = some b ∧ m = 2) ∨
      (i.form = .aluImm op b ∧ m = 2)

/-- R101: a read of the instruction's that the cartridge declines ends in the fatal state, with nothing else changed. -/
def readDeclined (i : Instr) (s : State) (a : Word) : Prop :=
  s.busRead a = none → exec i s = .next { s with run := .fatal (.unmappedAccess a .read), cost := 0 }

/-- R101: a byte write of the instruction's that is not accepted ends in the fatal state the write left. -/
def writeDeclined (i : Instr) (s : State) (a : Word) (v : Byte) : Prop :=
  s.accepts a v = false → ∃ t, s.writeByte a v = .error t ∧ exec i s = .next t

/-- R12, R101: a pop of which the cartridge declines a byte ends in the fatal state, with nothing else changed. -/
def popDeclined (i : Instr) (s : State) : Prop :=
  readDeclined i s s.regs.sp ∧
    (∀ lo, s.busRead s.regs.sp = some lo → readDeclined i s (s.regs.sp + 1))

/-- R138, R220: the bytes of the three operand forms. -/
def aluEncoded (i : Instr) (op : AluOp) : Prop :=
  (∀ r, i.form = .aluReg op r → encode i = [opXYZ 0b10 op.code r.code]) ∧
    (i.form = .aluAtHL op → encode i = [opXYZ 0b10 op.code 0b110]) ∧
      (∀ n8, i.form = .aluImm op n8 → encode i = [opXYZ 0b11 op.code 0b110, n8])

/-- R281 in arithmetic: the result and the carry out of a rotate or shift of v with carry in cin. -/
def shiftByArithmetic (op : ShiftOp) (v cin : Nat) : Nat × Bool :=
  match op with
  | .rlc => (2 * v % 256 + v / 128, decide (v / 128 = 1))
  | .rrc => (v / 2 + 128 * (v % 2), decide (v % 2 = 1))
  | .rl => (2 * v % 256 + cin, decide (v / 128 = 1))
  | .rr => (v / 2 + 128 * cin, decide (v % 2 = 1))
  | .sla => (2 * v % 256, decide (v / 128 = 1))
  | .sra => (v / 2 + 128 * (v / 128), decide (v % 2 = 1))
  | .swap => (16 * (v % 16) + v / 16, false)
  | .srl => (v / 2, decide (v % 2 = 1))

/-- R91, R92: an address at which a byte is stored in VRAM, WRAM (or its echo), OAM or HRAM. -/
def storesBytes (a : Word) : Prop :=
  (0x8000 ≤ a.toNat ∧ a.toNat < 0xA000) ∨ (0xC000 ≤ a.toNat ∧ a.toNat < 0xFEA0) ∨ (0xFF80 ≤ a.toNat ∧ a.toNat < 0xFFFF)

/-- R104, R106: the plain bytes of the I/O range. -/
def plainIo (a : Word) : Prop :=
  (0xFF01 ≤ a.toNat ∧ a.toNat ≤ 0xFF03) ∨ (0xFF08 ≤ a.toNat ∧ a.toNat ≤ 0xFF0E) ∨ (0xFF10 ≤ a.toNat ∧ a.toNat ≤ 0xFF3F) ∨
    (0xFF4C ≤ a.toNat ∧ a.toNat ≤ 0xFF7F)

/-! ## The picture -/

/-- R419 `pix` in arithmetic: the colour index of column c of row r of the tile at a base. -/
def State.tileIndex (s : State) (base r c : Nat) : Nat :=
  2 * ((s.mem.read (base + 2 * r + 1)).toNat / 2 ^ (7 - c) % 2) + (s.mem.read (base + 2 * r)).toNat / 2 ^ (7 - c) % 2

/-- R419 to R421: the colour index of point (x, y) of the tile map at a base. Tiles 128 to 255 stand at 0x8000 + 16 × t
however LCDC bit 4 counts them. -/
def State.mapIndex (s : State) (map x y : Nat) : Nat :=
  let t := (s.mem.read (map + 32 * (y / 8) + x / 8)).toNat
  s.tileIndex ((if s.lcd.lcdc.getLsbD 4 = true ∨ 128 ≤ t then 0x8000 else 0x9000) + 16 * t) (y % 8) (x % 8)

/-- R418, R420, R421 `bgi[x]`: the colour index of the window, where it covers column x of line ly, else of the background;
0 where LCDC bit 0 is clear. -/
def State.layerIndex (s : State) (ly x : Nat) : Nat :=
  let d := s.lcd
  if d.lcdc.getLsbD 0 = false then 0
  else if d.lcdc.getLsbD 5 = true ∧ d.wy.toNat ≤ ly ∧ d.wx.toNat ≤ x + 7 then
    s.mapIndex (if d.lcdc.getLsbD 6 then 0x9C00 else 0x9800) (x + 7 - d.wx.toNat) (ly - d.wy.toNat)
  else s.mapIndex (if d.lcdc.getLsbD 3 then 0x9C00 else 0x9800) ((x + d.scx.toNat) % 256) ((ly + d.scy.toNat) % 256)

/-- R425: the shade of a colour index under a palette, `(p >> 2ci) & 3`. -/
def paletteShade (p : Byte) (ci : Nat) : Nat := p.toNat / 4 ^ ci % 4

/-- R422, R424: the colour index of entry k of the sprite table at its column col on line ly, after its flips (attribute
bits 6 and 5); 8 × 16 sprites ignore bit 0 of the tile number. -/
def State.spriteDot (s : State) (ly k col : Nat) : Nat :=
  let byte := fun j => (s.mem.read (0xFE00 + 4 * k + j)).toNat
  let tall := s.lcd.lcdc.getLsbD 2
  let row := ly + 16 - byte 0
  s.tileIndex (0x8000 + 16 * (if tall then byte 2 / 2 * 2 else byte 2))
    (if byte 3 / 64 % 2 = 1 then (if tall then 15 else 7) - row else row) (if byte 3 / 32 % 2 = 1 then 7 - col else col)

/-- R422, R424: the shade that entry k of the sprite table puts at column x of line ly, or `none` where it puts nothing: it
does not reach the column, its pixel is transparent, or it stands (attribute bit 7) behind a background index that is not
0. Attribute bit 4 selects the palette. -/
def State.spriteShade (s : State) (ly x k : Nat) : Option Nat :=
  let left := (s.mem.read (0xFE00 + 4 * k + 1)).toNat
  let attr := (s.mem.read (0xFE00 + 4 * k + 3)).toNat
  let ci := s.spriteDot ly k (x + 8 - left)
  if left ≤ x + 8 ∧ x < left ∧ ci ≠ 0 ∧ ¬(attr / 128 = 1 ∧ s.layerIndex ly x ≠ 0) then
    some (paletteShade (if attr / 16 % 2 = 1 then s.lcd.obp1 else s.lcd.obp0) ci)
  else none

end Sys2Proof.Machine

/-! ## Forms -/

namespace Sys2Proof

open Machine

/-- R164 to R177, R202, R205, R249, R251, R287 to R307, R336, R337, R341: where a form stores, and how many bytes. -/
def Form.writeAddr (f : Form) (s : State) : Option (Word × Nat) :=
  match f with
  | .ldAtHLReg _ | .ldAtHLImm _ | .ldAtHLincA | .ldAtHLdecA | .incAtHL | .decAtHL | .shiftAtHL _ | .resAtHL _ | .setAtHL _ =>
    some (s.hl, 1)
  | .ldAtPairA p => some (s.pair p, 1)
  | .ldAtImmA n16 => some (n16, 1)
  | .ldhAtImmA n8 => some (ioPage n8, 1)
  | .ldAtCA => some (ioPage s.regs.c, 1)
  | .ldAtImmSP n16 => some (n16, 2)
  | .push _ | .call _ | .rst _ => some (s.regs.sp - 2, 2)
  | .callCond cc _ => if s.holds cc then some (s.regs.sp - 2, 2) else none
  | _ => none

/-- R36: the 8-bit registers a pair names. -/
def pairRegs : Pair → List Reg8
  | .BC => [.B, .C]
  | .DE => [.D, .E]
  | .HL => [.H, .L]
  | .SP => []
  | .AF => [.A]

/-- R36: the 8-bit registers a form writes. -/
def Form.regsWritten (f : Form) : List Reg8 :=
  match f with
  | .ldRegReg d _ | .ldRegImm d _ | .ldRegAtHL d => [d]
  | .ldAAtPair _ | .ldAAtImm _ | .ldhAAtImm _ | .ldAAtC => [.A]
  | .ldAtHLincA | .ldAtHLdecA => [.H, .L]
  | .ldAAtHLinc | .ldAAtHLdec => [.A, .H, .L]
  | .ldPairImm p _ | .incPair p | .decPair p => pairRegs p
  | .pop p => pairRegs p
  | .ldHLSPe8 _ | .addHLPair _ => [.H, .L]
  | .aluReg op _ | .aluAtHL op | .aluImm op _ => if op = .cp then [] else [.A]
  | .incReg r | .decReg r => [r]
  | .daa | .cpl | .rotA _ => [.A]
  | .shiftReg _ r | .resReg _ r | .setReg _ r => [r]
  | _ => []

/-- R36: whether a form writes SP. -/
def Form.writesSp (f : Form) : Bool :=
  match f with
  | .ldPairImm .SP _ | .incPair .SP | .decPair .SP => true
  | .ldSPHL | .addSPe8 _ | .push _ | .pop _ => true
  | .call _ | .callCond _ _ | .ret | .retCond _ | .reti | .rst _ => true
  | _ => false

/-- R330 to R341: whether a form is a control transfer, which may write PC. -/
def Form.writesPc (f : Form) : Bool :=
  match f with
  | .jp _ | .jpCond _ _ | .jpHL | .jr _ | .jrCond _ _ => true
  | .call _ | .callCond _ _ | .ret | .retCond _ | .reti | .rst _ => true
  | _ => false

/-- The `flags` column: "a letter means the flag is set from the result, 0 or 1 means forced, and `-` means
unchanged". -/
inductive FlagUse where
  | kept
  | zero
  | one
  | result
  deriving DecidableEq, Repr

/-- The four letters of a row's `flags` column. -/
structure FlagColumn where
  z : FlagUse
  n : FlagUse
  h : FlagUse
  c : FlagUse
  deriving DecidableEq, Repr

/-- The `flags` column of spec/opcode_table.json, by form. -/
def Form.flagColumn (f : Form) : FlagColumn :=
  match f with
  | .ldHLSPe8 _ | .addSPe8 _ => ⟨.zero, .zero, .result, .result⟩
  | .pop .AF => ⟨.result, .result, .result, .result⟩
  | .aluReg op _ | .aluAtHL op | .aluImm op _ =>
    match op with
    | .add | .adc => ⟨.result, .zero, .result, .result⟩
    | .sub | .sbc | .cp => ⟨.result, .one, .result, .result⟩
    | .and => ⟨.result, .zero, .one, .zero⟩
    | .xor | .or => ⟨.result, .zero, .zero, .zero⟩
  | .incReg _ | .incAtHL => ⟨.result, .zero, .result, .kept⟩
  | .decReg _ | .decAtHL => ⟨.result, .one, .result, .kept⟩
  | .daa => ⟨.result, .kept, .zero, .result⟩
  | .cpl => ⟨.kept, .one, .one, .kept⟩
  | .scf => ⟨.kept, .zero, .zero, .one⟩
  | .ccf => ⟨.kept, .zero, .zero, .result⟩
  | .addHLPair _ => ⟨.kept, .zero, .result, .result⟩
  | .rotA _ => ⟨.zero, .zero, .zero, .result⟩
  | .shiftReg .swap _ | .shiftAtHL .swap => ⟨.result, .zero, .zero, .zero⟩
  | .shiftReg _ _ | .shiftAtHL _ => ⟨.result, .zero, .zero, .result⟩
  | .bitReg _ _ | .bitAtHL _ => ⟨.result, .zero, .one, .kept⟩
  | _ => ⟨.kept, .kept, .kept, .kept⟩

/-- Whether a flag went from one value to another as its column says. -/
def FlagUse.allows (u : FlagUse) (before after : Bool) : Prop :=
  match u with
  | .kept => after = before
  | .zero => after = false
  | .one => after = true
  | .result => True

/-- The `cycles` column of spec/opcode_table.json, by form: one cost, or [untaken, taken]. PREFIX CB, whose column is empty,
takes a cost of its CB instruction (R356). -/
def Form.cycles (f : Form) : List Nat :=
  match f with
  | .ldRegReg _ _ | .aluReg _ _ | .incReg _ | .decReg _ | .daa | .cpl | .scf | .ccf | .rotA _ | .jpHL | .nop | .halt | .stop _
  | .di | .ei => [1]
  | .ldRegImm _ _ | .ldRegAtHL _ | .ldAtHLReg _ | .ldAAtPair _ | .ldAtPairA _ | .ldAAtC | .ldAtCA | .ldAtHLincA
  | .ldAtHLdecA | .ldAAtHLinc | .ldAAtHLdec | .ldSPHL | .aluAtHL _ | .aluImm _ _ | .addHLPair _ | .incPair _ | .decPair _
  | .shiftReg _ _ | .bitReg _ _ | .resReg _ _ | .setReg _ _ => [2]
  | .ldAtHLImm _ | .ldhAAtImm _ | .ldhAtImmA _ | .ldPairImm _ _ | .ldHLSPe8 _ | .pop _ | .incAtHL | .decAtHL | .bitAtHL _
  | .jr _ => [3]
  | .ldAAtImm _ | .ldAtImmA _ | .push _ | .addSPe8 _ | .shiftAtHL _ | .resAtHL _ | .setAtHL _ | .jp _ | .ret | .reti
  | .rst _ => [4]
  | .ldAtImmSP _ => [5]
  | .call _ => [6]
  | .jrCond _ _ => [2, 3]
  | .jpCond _ _ => [3, 4]
  | .callCond _ _ => [3, 6]
  | .retCond _ => [2, 5]
  | .prefixCb _ => [2, 3, 4]
  | .illegal _ => []

end Sys2Proof
end

