-- ==== Sys2Proof/Certificates/Slice0/Obligations.lean ====
section
/-! DEFINITION. The statements for the provers. Those about instructions are per operand form: `i.form` is the form of
instruction i with the operands its mnemonic names, so a statement over a form covers every row of it. PC already
points past the instruction when its meaning runs (R14). -/

open Sys2Proof Sys2Proof.Machine

/-! ## Encoding and decoding -/

/-- R131, R133 to R142: words written out from the encodings decode to the instructions they stand for, one or more for
every family. -/
def Obligations.WordsOfTheSpecDecode : Prop :=
  decode [0b01000001] = .ok (.ld_B_C, []) ∧ decode [0b00111110, 0x12] = .ok (.ld_A_n8 0x12, []) ∧
    decode [0x08, 0x00, 0xC1] = .ok (.ld_atN16_SP 0xC100, []) ∧ decode [0b11110101] = .ok (.push_AF, []) ∧
    decode [0b10011100] = .ok (.sbc_A_H, []) ∧ decode [0b11111110, 0x3C] = .ok (.cp_n8 0x3C, []) ∧
    decode [0b00110100] = .ok (.inc_atHL, []) ∧ decode [0b00111001] = .ok (.add_HL_SP, []) ∧
    decode [0xCB, 0b00101111] = .ok (.sra_A, []) ∧ decode [0xCB, 0b01111110] = .ok (.bit_7_atHL, []) ∧
    decode [0b11010010, 0x00, 0x02] = .ok (.jp_NC_n16 0x0200, []) ∧ decode [0b11101111] = .ok (.rst_28, []) ∧
    decode [0x76] = .ok (.halt, []) ∧ decode [0x10, 0x00] = .ok (.stop 0x00, []) ∧ decode [0xD3] = .ok (.illegal_D3, [])

/-- R130 to R142: decoding the bytes of an instruction gives it back with whatever follows it, for every well-formed
instruction and every operand value. -/
def Obligations.DecodeOfEncodeIsTheInstruction : Prop :=
  ∀ (i : Instr) (rest : List Byte), i.WellFormed = true → decode (encode i ++ rest) = .ok (i, rest)

/-- R130, R145, R148: any three bytes start with exactly one well-formed instruction, and its encoding is the bytes the
decoder took. -/
def Obligations.EncodeOfDecodeIsTheBytes : Prop :=
  ∀ op b1 b2 : Byte, ∃ (i : Instr) (rest : List Byte),
    decode [op, b1, b2] = .ok (i, rest) ∧ i.WellFormed = true ∧ encode i ++ rest = [op, b1, b2]

/-! ## 8-bit loads -/

/-- R161, R162, R201, R203: LD r,r', LD r,n8, LD rr,n16 and LD SP,HL. No flag is written. -/
def Obligations.RegisterLoads : Prop :=
  (∀ (i : Instr) (s : State) (d : Reg8),
      (∀ r, i.form = .ldRegReg d r → encode i = [opXYZ 0b01 d.code r.code] ∧
        ∃ t, exec i s = .next t ∧ s.changedRegs t 1 ∧ t.reg d = s.reg r ∧ s.keepsRegsBut t [d] ∧ t.regs.f = s.regs.f) ∧
      (∀ n8, i.form = .ldRegImm d n8 → encode i = [opXYZ 0b00 d.code 0b110, n8] ∧
        ∃ t, exec i s = .next t ∧ s.changedRegs t 2 ∧ t.reg d = n8 ∧ s.keepsRegsBut t [d] ∧ t.regs.f = s.regs.f)) ∧
  (∀ (i : Instr) (s : State),
      (∀ rr n16, i.form = .ldPairImm rr n16 → encode i = [opXYZ 0b00 (rr.code ++ 0#1) 0b001, lowByte n16, highByte n16] ∧
        ∃ t, exec i s = .next t ∧ s.changedRegs t 3 ∧ t.pair rr = n16 ∧ (∀ r, r ∉ pairRegs rr → t.reg r = s.reg r) ∧
          (rr ≠ .SP → t.regs.sp = s.regs.sp) ∧ t.regs.f = s.regs.f ∧ t.regs.pc = s.regs.pc) ∧
      (i.form = .ldSPHL → encode i = [0xF9] ∧ exec i s = .next { s with regs := { s.regs with sp := s.pair .HL }, cost := 2 }))

/-- R163, R166, R167, R170, R172, R174: a load from memory, at the address and the cost of its form; a declined read
ends in the fatal state (R101). -/
def Obligations.LoadsFromMemory : Prop :=
  ∀ (i : Instr) (s : State) (d : Reg8) (a : Word) (m : Nat),
    (i.form = .ldRegAtHL d ∧ a = s.pair .HL ∧ m = 2) ∨
      (d = .A ∧ ((∃ p, i.form = .ldAAtPair p ∧ a = s.pair p ∧ m = 2) ∨ (i.form = .ldAAtImm a ∧ m = 4) ∨
        (∃ n8, i.form = .ldhAAtImm n8 ∧ a = 0xFF00 + n8.zeroExtend 16 ∧ m = 3) ∨
        (i.form = .ldAAtC ∧ a = 0xFF00 + s.regs.c.zeroExtend 16 ∧ m = 2))) →
    (i.form = .ldRegAtHL d → encode i = [opXYZ 0b01 d.code 0b110]) ∧
      (∀ p, i.form = .ldAAtPair p → encode i = [opXYZ 0b00 (p.code ++ 1#1) 0b010]) ∧
      (i.form = .ldAAtImm a → encode i = [0xFA, lowByte a, highByte a]) ∧
      (∀ n8, i.form = .ldhAAtImm n8 → encode i = [0xF0, n8]) ∧ (i.form = .ldAAtC → encode i = [0xF2]) ∧
    (∀ v, s.busRead a = some v →
      ∃ t, exec i s = .next t ∧ s.changedRegs t m ∧ t.reg d = v ∧ s.keepsRegsBut t [d] ∧ t.regs.f = s.regs.f) ∧
    readDeclined i s a

/-- R164, R165, R168, R169, R171, R173, R175: a store of one byte, at the address and the cost of its form. The next
state is the bus write's, with the cost; a declined write ends in the fatal state (R101). -/
def Obligations.StoresToMemory : Prop :=
  ∀ (i : Instr) (s : State) (a : Word) (v : Byte) (m : Nat),
    (a = s.pair .HL ∧ ((∃ r, i.form = .ldAtHLReg r ∧ v = s.reg r ∧ m = 2) ∨ (i.form = .ldAtHLImm v ∧ m = 3))) ∨
      (v = s.regs.a ∧ ((∃ p, i.form = .ldAtPairA p ∧ a = s.pair p ∧ m = 2) ∨ (i.form = .ldAtImmA a ∧ m = 4) ∨
        (∃ n8, i.form = .ldhAtImmA n8 ∧ a = 0xFF00 + n8.zeroExtend 16 ∧ m = 3) ∨
        (i.form = .ldAtCA ∧ a = 0xFF00 + s.regs.c.zeroExtend 16 ∧ m = 2))) →
    (∀ r, i.form = .ldAtHLReg r → encode i = [opXYZ 0b01 0b110 r.code]) ∧
      (i.form = .ldAtHLImm v → encode i = [0x36, v]) ∧
      (∀ p, i.form = .ldAtPairA p → encode i = [opXYZ 0b00 (p.code ++ 0#1) 0b010]) ∧
      (i.form = .ldAtImmA a → encode i = [0xEA, lowByte a, highByte a]) ∧
      (∀ n8, i.form = .ldhAtImmA n8 → encode i = [0xE0, n8]) ∧ (i.form = .ldAtCA → encode i = [0xE2]) ∧
    (s.accepts a v = true → ∃ t, s.writeByte a v = .ok t ∧ exec i s = .next { t with cost := m } ∧ t.regs = s.regs) ∧
    writeDeclined i s a v

/-- R176 to R179: the loads and stores that step HL afterwards, modulo 2^16, with no flag written. -/
def Obligations.LoadsAndStoresThatStepHL : Prop :=
  ∀ (i : Instr) (s : State) (delta : Word),
    (i.form = .ldAtHLincA → encode i = [0x22]) ∧ (i.form = .ldAtHLdecA → encode i = [0x32]) ∧
    (i.form = .ldAAtHLinc → encode i = [0x2A]) ∧ (i.form = .ldAAtHLdec → encode i = [0x3A]) ∧
    ((i.form = .ldAAtHLinc ∧ delta = 1) ∨ (i.form = .ldAAtHLdec ∧ delta = -1) →
      ∀ v, s.busRead (s.pair .HL) = some v →
        ∃ t, exec i s = .next t ∧ s.changedRegs t 2 ∧ t.regs.a = v ∧ t.pair .HL = s.pair .HL + delta ∧
          s.keepsRegsBut t [.A, .H, .L] ∧ t.regs.f = s.regs.f) ∧
    (i.form = .ldAAtHLinc ∨ i.form = .ldAAtHLdec → readDeclined i s (s.pair .HL)) ∧
    ((i.form = .ldAtHLincA ∧ delta = 1) ∨ (i.form = .ldAtHLdecA ∧ delta = -1) →
      s.accepts (s.pair .HL) s.regs.a = true →
        ∃ t u, s.writeByte (s.pair .HL) s.regs.a = .ok t ∧ exec i s = .next u ∧ t.changedRegs u 2 ∧
          u.pair .HL = s.pair .HL + delta ∧ s.keepsRegsBut u [.H, .L] ∧ u.regs.f = s.regs.f) ∧
    (i.form = .ldAtHLincA ∨ i.form = .ldAtHLdecA → writeDeclined i s (s.pair .HL) s.regs.a)

/-! ## 16-bit loads and the stack -/

/-- R204, R274: SP plus a signed displacement, into HL or SP. H and C come from the unsigned sum of the low bytes. -/
def Obligations.StackPointerPlusDisplacement : Prop :=
  ∀ (i : Instr) (s : State) (e8 : Byte),
    let h := decide (s.regs.sp.toNat % 16 + e8.toNat % 16 > 0x0F)
    let c := decide (s.regs.sp.toNat % 256 + e8.toNat > 0xFF)
    (i.form = .ldHLSPe8 e8 → encode i = [0xF8, e8] ∧
      ∃ t, exec i s = .next t ∧ s.changedRegs t 3 ∧ t.pair .HL = s.regs.sp + e8.signExtend 16 ∧
        s.keepsRegsBut t [.H, .L] ∧ t.flagsAre false false h c) ∧
    (i.form = .addSPe8 e8 → encode i = [0xE8, e8] ∧
      ∃ t, exec i s = .next t ∧ s.changedRegs t 4 ∧ t.regs.sp = s.regs.sp + e8.signExtend 16 ∧
        (∀ r, t.reg r = s.reg r) ∧ t.regs.pc = s.regs.pc ∧ t.flagsAre false false h c)

/-- R202, R205: LD (n16),SP and PUSH write a word, low byte first. A declined byte ends in the fatal state (R101), after
the decrement of SP in PUSH. -/
def Obligations.WordStores : Prop :=
  ∀ (i : Instr) (s : State),
    (∀ n16, i.form = .ldAtImmSP n16 → encode i = [0x08, lowByte n16, highByte n16] ∧
      (s.acceptsWord n16 s.regs.sp = true →
        ∃ u t, s.writeByte n16 (lowByte s.regs.sp) = .ok u ∧ u.writeByte (n16 + 1) (highByte s.regs.sp) = .ok t ∧
          exec i s = .next { t with cost := 5 } ∧ t.regs = s.regs) ∧
      ∀ t, s.writeWord n16 s.regs.sp = .error t → exec i s = .next t) ∧
    (∀ qq, i.form = .push qq → encode i = [opXYZ 0b11 (qq.code ++ 0#1) 0b101] ∧
      ∀ a v, a = s.regs.sp - 2 → v = s.pair qq →
        ((s.setSp a).acceptsWord a v = true →
          ∃ u t, (s.setSp a).writeByte a (lowByte v) = .ok u ∧ u.writeByte (a + 1) (highByte v) = .ok t ∧
            exec i s = .next { t with cost := 4 } ∧ t.regs = { s.regs with sp := a }) ∧
          ∀ t, (s.setSp a).writeWord a v = .error t → exec i s = .next t)

/-- R206, R207: POP reads the word at SP, adds 2 to SP and writes the pair; POP AF discards the low four bits. -/
def Obligations.PopLoadsThePair : Prop :=
  ∀ (i : Instr) (s : State) (qq : Pair), i.form = .pop qq →
    encode i = [opXYZ 0b11 (qq.code ++ 0#1) 0b001] ∧
    (∀ lo hi, s.busRead s.regs.sp = some lo → s.busRead (s.regs.sp + 1) = some hi →
      ∃ t, exec i s = .next t ∧ s.changedRegs t 3 ∧ t.regs.sp = s.regs.sp + 2 ∧ t.regs.pc = s.regs.pc ∧
        (∀ r, r ∉ pairRegs qq → t.reg r = s.reg r) ∧
        (if qq = .AF then t.regs.a = hi ∧ t.regs.f = lo &&& 0xF0
         else t.pair qq = hi ++ lo ∧ t.regs.f = s.regs.f)) ∧
    popDeclined i s

/-- R35, R200: push word W, pop returns W (AF with its low four bits cleared, R207), and SP returns to its pre-push
value, having been 2 lower between; for a stack in memory that stores bytes. -/
def Obligations.PopReturnsThePushedWord : Prop :=
  ∀ (i j : Instr) (s : State) (p q : Pair),
    i.form = .push p → j.form = .pop q → s.mem.wf = true → storesBytes (s.regs.sp - 2) → storesBytes (s.regs.sp - 1) →
    ∃ t u, exec i s = .next t ∧ exec j t = .next u ∧ t.regs.sp = s.regs.sp - 2 ∧ u.regs.sp = s.regs.sp ∧
      u.pair q = if q = .AF then s.pair p &&& 0xFFF0 else s.pair p

/-! ## 8-bit arithmetic and logic -/

/-- R221, R224 to R229: ADD and ADC in their three operand forms. -/
def Obligations.AddAndAddWithCarry : Prop :=
  (∀ (i : Instr) (s : State) (op : AluOp) (b : Byte) (m : Nat),
      aluOperand i s op b m → op = .add ∨ op = .adc →
      let cin := if op = .adc then s.flagC.toNat else 0
      let sum := s.regs.a.toNat + b.toNat + cin
      aluEncoded i op ∧ ∃ t, exec i s = .next t ∧ s.changedRegs t m ∧ s.keepsRegsBut t [.A] ∧ t.regs.a.toNat = sum % 256 ∧
        t.flagsAre (decide (sum % 256 = 0)) false (decide (s.regs.a.toNat % 16 + b.toNat % 16 + cin > 0x0F))
          (decide (sum > 0xFF))) ∧
  (∀ (i : Instr) (s : State) (op : AluOp), i.form = .aluAtHL op → op = .add ∨ op = .adc → readDeclined i s (s.pair .HL))

/-- R222, R230 to R235, R245 to R247: SUB, SBC and CP in their three operand forms; CP writes no register. -/
def Obligations.SubtractAndCompare : Prop :=
  (∀ (i : Instr) (s : State) (op : AluOp) (b : Byte) (m : Nat),
      aluOperand i s op b m → op = .sub ∨ op = .sbc ∨ op = .cp →
      let cin := if op = .sbc then s.flagC.toNat else 0
      let res := (s.regs.a.toNat + 512 - b.toNat - cin) % 256
      aluEncoded i op ∧ ∃ t, exec i s = .next t ∧ s.changedRegs t m ∧ s.keepsRegsBut t [.A] ∧
        t.regs.a.toNat = (if op = .cp then s.regs.a.toNat else res) ∧
        t.flagsAre (decide (res = 0)) true (decide (s.regs.a.toNat % 16 < b.toNat % 16 + cin))
          (decide (s.regs.a.toNat < b.toNat + cin))) ∧
  (∀ (i : Instr) (s : State) (op : AluOp), i.form = .aluAtHL op → op = .sub ∨ op = .sbc ∨ op = .cp → readDeclined i s (s.pair .HL))

/-- R223, R236 to R244: AND, XOR and OR in their three operand forms, bit by bit. -/
def Obligations.LogicOperations : Prop :=
  (∀ (i : Instr) (s : State) (op : AluOp) (b : Byte) (m : Nat),
      aluOperand i s op b m → op = .and ∨ op = .xor ∨ op = .or →
      aluEncoded i op ∧ ∃ t, exec i s = .next t ∧ s.changedRegs t m ∧ s.keepsRegsBut t [.A] ∧
        (∀ k < 8, t.regs.a.getLsbD k =
          (if op = .and then s.regs.a.getLsbD k && b.getLsbD k
           else if op = .xor then s.regs.a.getLsbD k != b.getLsbD k
           else s.regs.a.getLsbD k || b.getLsbD k)) ∧
        t.flagsAre (decide (t.regs.a = 0)) false (decide (op = .and)) false) ∧
  (∀ (i : Instr) (s : State) (op : AluOp), i.form = .aluAtHL op → op = .and ∨ op = .xor ∨ op = .or → readDeclined i s (s.pair .HL))

/-- R248 to R251: INC and DEC of a register and of the byte at HL, which is read and written back by the bus. The carry flag
is left as it was. -/
def Obligations.IncrementAndDecrement : Prop :=
  (∀ (i : Instr) (s : State) (r : Reg8),
      (i.form = .incReg r → encode i = [opXYZ 0b00 r.code 0b100] ∧
        ∃ t, exec i s = .next t ∧ s.changedRegs t 1 ∧ s.keepsRegsBut t [r] ∧ (t.reg r).toNat = ((s.reg r).toNat + 1) % 256 ∧
          t.flagsAre (decide (t.reg r = 0)) false (decide ((s.reg r).toNat % 16 = 15)) s.flagC) ∧
      (i.form = .decReg r → encode i = [opXYZ 0b00 r.code 0b101] ∧
        ∃ t, exec i s = .next t ∧ s.changedRegs t 1 ∧ s.keepsRegsBut t [r] ∧ (t.reg r).toNat = ((s.reg r).toNat + 255) % 256 ∧
          t.flagsAre (decide (t.reg r = 0)) true (decide ((s.reg r).toNat % 16 = 0)) s.flagC)) ∧
  (∀ (i : Instr) (s : State) (v : Byte), s.busRead (s.pair .HL) = some v →
      (i.form = .incAtHL → encode i = [0x34] ∧ (s.accepts (s.pair .HL) (v + 1) = true →
        ∃ t u, s.writeByte (s.pair .HL) (v + 1) = .ok t ∧ exec i s = .next u ∧ t.changedRegs u 3 ∧ s.keepsRegsBut u [] ∧
          u.flagsAre (decide (v + 1 = 0)) false (decide (v.toNat % 16 = 15)) s.flagC)) ∧
      (i.form = .decAtHL → encode i = [0x35] ∧ (s.accepts (s.pair .HL) (v - 1) = true →
        ∃ t u, s.writeByte (s.pair .HL) (v - 1) = .ok t ∧ exec i s = .next u ∧ t.changedRegs u 3 ∧ s.keepsRegsBut u [] ∧
          u.flagsAre (decide (v - 1 = 0)) true (decide (v.toNat % 16 = 0)) s.flagC)) ∧
      (i.form = .incAtHL → writeDeclined i s (s.pair .HL) (v + 1)) ∧
      (i.form = .decAtHL → writeDeclined i s (s.pair .HL) (v - 1))) ∧
  (∀ (i : Instr) (s : State), i.form = .incAtHL ∨ i.form = .decAtHL → readDeclined i s (s.pair .HL))

/-- R252: DAA. -/
def Obligations.DecimalAdjust : Prop :=
  ∀ (i : Instr) (s : State), i.form = .daa →
    let a := s.regs.a.toNat
    let high := !s.flagN && (s.flagC || decide (a > 0x99))
    let low := if s.flagN then s.flagH else s.flagH || decide (a % 16 > 9)
    let correction := (if (if s.flagN then s.flagC else high) then 0x60 else 0) + (if low then 0x06 else 0)
    encode i = [0x27] ∧ ∃ t, exec i s = .next t ∧ s.changedRegs t 1 ∧ s.keepsRegsBut t [.A] ∧
      t.regs.a.toNat = (if s.flagN then a + 256 - correction else a + correction) % 256 ∧
      t.flagsAre (decide (t.regs.a = 0)) s.flagN false (s.flagC || high)

/-- R226, R252: ADD of two BCD bytes and then DAA give the BCD sum modulo 100, with C as the decimal carry. -/
def Obligations.DecimalAdjustGivesTheDecimalSum : Prop :=
  ∀ (i j : Instr) (s : State) (x y : Nat),
    x < 100 → y < 100 → s.regs.a = BitVec.ofNat 8 (16 * (x / 10) + x % 10) →
    i.form = .aluImm .add (BitVec.ofNat 8 (16 * (y / 10) + y % 10)) → j.form = .daa →
    ∃ t u, exec i s = .next t ∧ exec j t = .next u ∧
      u.regs.a.toNat = 16 * ((x + y) % 100 / 10) + (x + y) % 10 ∧ u.flagC = decide (100 ≤ x + y)

/-- R253, R254, R255: CPL, SCF, CCF. -/
def Obligations.FlagOperations : Prop :=
  ∀ (i : Instr) (s : State),
    (i.form = .cpl → encode i = [0x2F] ∧ ∃ t, exec i s = .next t ∧ s.changedRegs t 1 ∧ s.keepsRegsBut t [.A] ∧
      t.regs.a.toNat = 255 - s.regs.a.toNat ∧ t.flagsAre s.flagZ true true s.flagC) ∧
    (i.form = .scf → encode i = [0x37] ∧ ∃ t, exec i s = .next t ∧ s.changedRegs t 1 ∧ s.keepsRegsBut t [] ∧
      t.flagsAre s.flagZ false false true) ∧
    (i.form = .ccf → encode i = [0x3F] ∧ ∃ t, exec i s = .next t ∧ s.changedRegs t 1 ∧ s.keepsRegsBut t [] ∧
      t.flagsAre s.flagZ false false (!s.flagC))

/-! ## 16-bit arithmetic -/

/-- R271, R272, R273: ADD HL,rr with H from bit 11 and C from bit 15; INC rr and DEC rr with no flag. -/
def Obligations.SixteenBitArithmetic : Prop :=
  ∀ (i : Instr) (s : State) (rr : Pair),
    (i.form = .addHLPair rr → encode i = [opXYZ 0b00 (rr.code ++ 1#1) 0b001] ∧
      ∃ t, exec i s = .next t ∧ s.changedRegs t 2 ∧ s.keepsRegsBut t [.H, .L] ∧
        (t.pair .HL).toNat = ((s.pair .HL).toNat + (s.pair rr).toNat) % 65536 ∧
        t.flagsAre s.flagZ false (decide ((s.pair .HL).toNat % 4096 + (s.pair rr).toNat % 4096 > 0x0FFF))
          (decide ((s.pair .HL).toNat + (s.pair rr).toNat > 0xFFFF))) ∧
    (i.form = .incPair rr → encode i = [opXYZ 0b00 (rr.code ++ 0#1) 0b011]) ∧
    (i.form = .decPair rr → encode i = [opXYZ 0b00 (rr.code ++ 1#1) 0b011]) ∧
    (∀ delta, (i.form = .incPair rr ∧ delta = 1) ∨ (i.form = .decPair rr ∧ delta = 65535) →
      ∃ t, exec i s = .next t ∧ s.changedRegs t 2 ∧ (t.pair rr).toNat = ((s.pair rr).toNat + delta) % 65536 ∧
        (∀ r, r ∉ pairRegs rr → t.reg r = s.reg r) ∧ (rr ≠ .SP → t.regs.sp = s.regs.sp) ∧ t.regs.f = s.regs.f ∧
        t.regs.pc = s.regs.pc)

/-! ## Rotates, shifts and bits -/

/-- R280 to R301: RLCA, RRCA, RLA, RRA, which clear Z even when the result is 0; the eight CB rotates and shifts of a
register; and those of the byte at HL, a read and a write. -/
def Obligations.RotatesAndShifts : Prop :=
  (∀ (i : Instr) (s : State) (op : ShiftOp), i.form = .rotA op →
      let out := shiftByArithmetic op s.regs.a.toNat s.flagC.toNat
      encode i = [opXYZ 0b00 op.code 0b111] ∧ ∃ t, exec i s = .next t ∧ s.changedRegs t 1 ∧ s.keepsRegsBut t [.A] ∧
        t.regs.a.toNat = out.1 ∧ t.flagsAre false false false out.2) ∧
  (∀ (i : Instr) (s : State) (op : ShiftOp) (r : Reg8), i.form = .shiftReg op r →
      let out := shiftByArithmetic op (s.reg r).toNat s.flagC.toNat
      encode i = [0xCB, opXYZ 0b00 op.code r.code] ∧ ∃ t, exec i s = .next t ∧ s.changedRegs t 2 ∧ s.keepsRegsBut t [r] ∧
        (t.reg r).toNat = out.1 ∧ t.flagsAre (decide (out.1 = 0)) false false out.2) ∧
  (∀ (i : Instr) (s : State) (op : ShiftOp) (v w : Byte), i.form = .shiftAtHL op → s.busRead (s.pair .HL) = some v →
      let out := shiftByArithmetic op v.toNat s.flagC.toNat
      w.toNat = out.1 →
      encode i = [0xCB, opXYZ 0b00 op.code 0b110] ∧
      (s.accepts (s.pair .HL) w = true →
        ∃ t u, s.writeByte (s.pair .HL) w = .ok t ∧ exec i s = .next u ∧ t.changedRegs u 4 ∧ s.keepsRegsBut u [] ∧
          u.flagsAre (decide (w = 0)) false false out.2) ∧
      writeDeclined i s (s.pair .HL) w) ∧
  (∀ (i : Instr) (s : State) (op : ShiftOp), i.form = .shiftAtHL op → readDeclined i s (s.pair .HL))

/-- R302 to R307: BIT, RES and SET of a register and of the byte at HL. BIT sets Z to the complement of the bit and writes
no register and no memory; RES and SET write no flag. -/
def Obligations.BitOperations : Prop :=
  (∀ (i : Instr) (s : State) (b : Fin 8) (r : Reg8),
      (i.form = .bitReg b r → encode i = [0xCB, opXYZ 0b01 (BitVec.ofNat 3 b.val) r.code] ∧
        ∃ t, exec i s = .next t ∧ s.changedRegs t 2 ∧ s.keepsRegsBut t [] ∧
          t.flagsAre (!(s.reg r).getLsbD b.val) false true s.flagC) ∧
      (i.form = .resReg b r → encode i = [0xCB, opXYZ 0b10 (BitVec.ofNat 3 b.val) r.code]) ∧
      (i.form = .setReg b r → encode i = [0xCB, opXYZ 0b11 (BitVec.ofNat 3 b.val) r.code]) ∧
      (∀ on, (i.form = .resReg b r ∧ on = false) ∨ (i.form = .setReg b r ∧ on = true) →
        ∃ t, exec i s = .next t ∧ s.changedRegs t 2 ∧ s.keepsRegsBut t [r] ∧ t.regs.f = s.regs.f ∧
          ∀ k < 8, (t.reg r).getLsbD k = if k = b.val then on else (s.reg r).getLsbD k)) ∧
  (∀ (i : Instr) (s : State) (b : Fin 8) (v : Byte), s.busRead (s.pair .HL) = some v →
      (i.form = .bitAtHL b → encode i = [0xCB, opXYZ 0b01 (BitVec.ofNat 3 b.val) 0b110] ∧
        ∃ t, exec i s = .next t ∧ s.changedRegs t 3 ∧ s.keepsRegsBut t [] ∧ t.flagsAre (!v.getLsbD b.val) false true s.flagC) ∧
      (i.form = .resAtHL b → encode i = [0xCB, opXYZ 0b10 (BitVec.ofNat 3 b.val) 0b110]) ∧
      (i.form = .setAtHL b → encode i = [0xCB, opXYZ 0b11 (BitVec.ofNat 3 b.val) 0b110]) ∧
      (∀ on w, (i.form = .resAtHL b ∧ on = false) ∨ (i.form = .setAtHL b ∧ on = true) →
        (∀ k < 8, w.getLsbD k = if k = b.val then on else v.getLsbD k) →
        (s.accepts (s.pair .HL) w = true →
          ∃ t, s.writeByte (s.pair .HL) w = .ok t ∧ exec i s = .next { t with cost := 4 } ∧ t.regs = s.regs) ∧
        writeDeclined i s (s.pair .HL) w)) ∧
  (∀ (i : Instr) (s : State) (b : Fin 8), i.form = .bitAtHL b ∨ i.form = .resAtHL b ∨ i.form = .setAtHL b →
      readDeclined i s (s.pair .HL))

/-- R145, R146, R356: PREFIX CB with its second byte is that CB instruction, whose decoding is well formed, and it
completes where that instruction does. -/
def Obligations.PrefixCbIsTheCbInstruction : Prop :=
  ∀ (op2 : Byte) (s : State),
    exec (.prefixCb op2) s = exec (decodeCb op2) s ∧ (decodeCb op2).WellFormed = true ∧
      decode [0xCB, op2] = .ok (decodeCb op2, []) ∧
      (op2.extractLsb' 0 3 ≠ 0b110 → ∃ t, exec (.prefixCb op2) s = .next t ∧ s.changedRegs t 2) ∧
      (op2.extractLsb' 0 3 = 0b110 → (s.busRead s.hl).isSome = true → (∀ w, s.accepts s.hl w = true) →
        ∃ t, exec (.prefixCb op2) s = .next t ∧ t.run = s.run ∧ t.cost = if op2.extractLsb' 6 2 = 0b01 then 3 else 4)

/-! ## Control transfer -/

/-- R331 to R335, with the four conditions (R137): the jumps. A conditional one goes to its target and costs its larger
cost exactly when its condition holds, and otherwise changes nothing but the cost. -/
def Obligations.JumpsGoToTheirTarget : Prop :=
  ∀ (i : Instr) (s : State) (cc : Cond) (n16 : Word) (e8 : Byte),
      (s.holds .NZ = !s.flagZ ∧ s.holds .Z = s.flagZ ∧ s.holds .NC = !s.flagC ∧ s.holds .C = s.flagC) ∧
      (i.form = .jp n16 → encode i = [0xC3, lowByte n16, highByte n16] ∧ exec i s = .next { s.setPc n16 with cost := 4 }) ∧
      (i.form = .jpCond cc n16 → encode i = [opXYZ 0b11 (0#1 ++ cc.code) 0b010, lowByte n16, highByte n16] ∧
        exec i s = .next (if s.holds cc then { s.setPc n16 with cost := 4 } else { s with cost := 3 })) ∧
      (i.form = .jpHL → encode i = [0xE9] ∧ exec i s = .next { s.setPc (s.pair .HL) with cost := 1 }) ∧
      (i.form = .jr e8 → encode i = [0x18, e8] ∧ exec i s = .next { s.setPc (s.regs.pc + e8.signExtend 16) with cost := 3 }) ∧
      (i.form = .jrCond cc e8 → encode i = [opXYZ 0b00 (1#1 ++ cc.code) 0b000, e8] ∧
        exec i s =
          .next (if s.holds cc then { s.setPc (s.regs.pc + e8.signExtend 16) with cost := 3 } else { s with cost := 2 }))

/-- R336, R337, R341: CALL, a taken CALL cc and RST push the address after the instruction and go to the target; a
declined byte of the push ends in the fatal state (R101). An untaken CALL cc changes nothing but the cost. -/
def Obligations.CallsPushTheReturnAddress : Prop :=
  (∀ (i : Instr) (s : State) (a target : Word) (m : Nat),
      a = s.regs.sp - 2 →
      (i.form = .call target ∧ m = 6) ∨ (∃ cc, i.form = .callCond cc target ∧ s.holds cc = true ∧ m = 6) ∨
        (∃ t : Fin 8, i.form = .rst t ∧ target = BitVec.ofNat 16 (8 * t.val) ∧ m = 4) →
      (i.form = .call target → encode i = [0xCD, lowByte target, highByte target]) ∧
      (∀ t : Fin 8, i.form = .rst t → encode i = [opXYZ 0b11 (BitVec.ofNat 3 t.val) 0b111]) ∧
      ((s.setSp a).acceptsWord a s.regs.pc = true →
        ∃ u t, (s.setSp a).writeByte a (lowByte s.regs.pc) = .ok u ∧ u.writeByte (a + 1) (highByte s.regs.pc) = .ok t ∧
          exec i s = .next { t.setPc target with cost := m } ∧ t.regs = { s.regs with sp := a }) ∧
      ∀ t, (s.setSp a).writeWord a s.regs.pc = .error t → exec i s = .next t) ∧
  (∀ (i : Instr) (s : State) (cc : Cond) (target : Word), i.form = .callCond cc target →
      encode i = [opXYZ 0b11 (0#1 ++ cc.code) 0b100, lowByte target, highByte target] ∧
        (s.holds cc = false → exec i s = .next { s with cost := 3 }))

/-- R338, R339, R340: RET, a taken RET cc and RETI pop the return address; RETI also sets IME at once; a declined byte of
the pop ends in the fatal state (R101). An untaken RET cc changes nothing but the cost. -/
def Obligations.ReturnsPopTheReturnAddress : Prop :=
  (∀ (i : Instr) (s : State) (lo hi : Byte), s.busRead s.regs.sp = some lo → s.busRead (s.regs.sp + 1) = some hi →
      let t := (s.setSp (s.regs.sp + 2)).setPc (hi ++ lo)
      (i.form = .ret → exec i s = .next { t with cost := 4 }) ∧
      (∀ cc, i.form = .retCond cc → s.holds cc = true → exec i s = .next { t with cost := 5 }) ∧
      (i.form = .reti → exec i s = .next { t with ints := { s.ints with ime := true }, cost := 4 })) ∧
  (∀ (i : Instr) (s : State),
      (i.form = .ret → encode i = [0xC9] ∧ popDeclined i s) ∧ (i.form = .reti → encode i = [0xD9] ∧ popDeclined i s) ∧
      (∀ cc, i.form = .retCond cc → encode i = [opXYZ 0b11 (0#1 ++ cc.code) 0b000] ∧
        (s.holds cc = true → popDeclined i s) ∧ (s.holds cc = false → exec i s = .next { s with cost := 2 })))

/-! ## System instructions -/

/-- R351, R352, R354, R355: NOP does nothing, HALT sets halted, DI and EI arm their counters to 2 and leave IME alone. -/
def Obligations.SystemInstructions : Prop :=
  ∀ (i : Instr) (s : State),
    (i.form = .nop → encode i = [0x00] ∧ exec i s = .next { s with cost := 1 }) ∧
    (i.form = .halt → encode i = [0x76] ∧ exec i s = .next { s with ints := { s.ints with halted := true }, cost := 1 }) ∧
    (i.form = .di → encode i = [0xF3] ∧ exec i s = .next { s with ints := { s.ints with diDelay := 2 }, cost := 1 }) ∧
    (i.form = .ei → encode i = [0xFB] ∧ exec i s = .next { s with ints := { s.ints with eiDelay := 2 }, cost := 1 })

/-- R353 at `STOP_POLICY` = NOP2, the value the spec takes and the model's choice (log 8): STOP takes any second byte,
changes nothing and costs 1. -/
def Obligations.StopIsATwoByteNoOperation : Prop :=
  ∀ (i : Instr) (s : State) (n8 : Byte), i.form = .stop n8 →
    encode i = [0x10, n8] ∧ exec i s = .next { s with cost := 1 }

/-- R143, R357, R371, R373: exactly eleven bytes have no instruction; fetching one enters the fatal state with the opcode and
the instruction's address, changes nothing else, returns no cost, and the step does not advance the devices. -/
def Obligations.IllegalOpcodes : Prop :=
  (∀ op b1 b2 : Byte,
      (∃ (i : Instr) (rest : List Byte), decode [op, b1, b2] = .ok (i, rest) ∧ i.form = .illegal op) ↔
        op ∈ [0xD3, 0xDB, 0xDD, 0xE3, 0xE4, 0xEB, 0xEC, 0xED, 0xF4, 0xFC, 0xFD]) ∧
  (∀ (i : Instr) (s : State) (op : Byte), i.form = .illegal op →
      ∃ t, exec i s = .next t ∧ t = { s with run := .fatal (.unimplementedOpcode op false (s.regs.pc - 1)), cost := 0 } ∧
        t.afterCpu = t)

/-- R384, R354, R355: the delay tick. A counter armed to 2 changes IME on the second tick and not on the first; when
both run out together IME ends true. -/
def Obligations.DelayTickChangesTheMasterEnable : Prop :=
  ∀ s : State,
    s.tickDelays = { s with ints := s.tickDelays.ints } ∧
    s.tickDelays.ints =
      { s.ints with
        diDelay := s.tickDelays.ints.diDelay
        eiDelay := s.tickDelays.ints.eiDelay
        ime := if s.ints.eiDelay = 1 then true else if s.ints.diDelay = 1 then false else s.ints.ime } ∧
    s.tickDelays.ints.diDelay.val = s.ints.diDelay.val - 1 ∧ s.tickDelays.ints.eiDelay.val = s.ints.eiDelay.val - 1 ∧
    (s.ints.eiDelay = 0 → s.ints.diDelay = 2 →
      s.tickDelays.ints.ime = s.ints.ime ∧ s.tickDelays.tickDelays.ints.ime = false) ∧
    (s.ints.diDelay = 0 → s.ints.eiDelay = 2 →
      s.tickDelays.ints.ime = s.ints.ime ∧ s.tickDelays.tickDelays.ints.ime = true)

/-! ## The step -/

/-- R392 stage (d), R145: where no interrupt is selected and the CPU is not halted, a step runs the instruction whose
bytes stand at PC, with PC moved past them and INPUT taken anew (R472, log 4), and then advances the devices (R399). Where
the bytes that read are not yet an instruction and the cartridge declines the next one, the step ends in the fatal state
with that address (R12, R101, R371): PC is past the bytes fetched and no device advances (R396). -/
def Obligations.StepRunsTheDecodedInstruction : Prop :=
  ∀ (s : State) (bytes : List Byte),
    s.run = .running →
    let s1 := s.sampleInput.tickDelays
    let a := s1.regs.pc + BitVec.ofNat 16 bytes.length
    s1.ints.selected = none → s1.ints.halted = false →
    (∀ k (h : k < bytes.length), s1.busRead (s1.regs.pc + BitVec.ofNat 16 k) = some bytes[k]) →
    (∀ i, decode bytes = .ok (i, []) →
      step s =
        match exec i (s1.setPc a).sampleInput with
        | .next t => .next t.afterCpu
        | .fault f => .fault f
        | .refused r => .refused r) ∧
    (∀ e, decode bytes = .error e → s1.busRead a = none →
      step s = .next { s1.setPc a with run := .fatal (.unmappedAccess a .read), cost := 0 })

/-- R385, R386: the source that the try selects is the lowest-numbered one both enabled and requested, where IME or
halted lets it try at all. -/
def Obligations.LowestEnabledRequestIsSelected : Prop :=
  ∀ (c : Interrupts) (i : Fin 5),
    c.selected = some i ↔
      (c.ime = true ∨ c.halted = true) ∧ c.ie.getLsbD i.val = true ∧ c.iflag.getLsbD i.val = true ∧
        ∀ j < i, ¬(c.ie.getLsbD j.val = true ∧ c.iflag.getLsbD j.val = true)

/-- R387, R385, R392 stage (b): a step that selects source i clears halted, bit i of IF and IME, pushes PC, goes to
0x0040 + 8 × i at cost 5, changes no other register and no delay counter, and fetches nothing. A declined byte of the
push ends in the fatal state (R101). -/
def Obligations.StepDispatchesTheSelectedInterrupt : Prop :=
  ∀ (s : State) (i : Fin 5),
    s.run = .running →
    let s1 := s.sampleInput.tickDelays
    let a := s1.regs.sp - 2
    let s2 : State :=
      { s1 with
        regs := { s1.regs with sp := a }
        ints := { s1.ints with ime := false, halted := false, iflag := s1.ints.iflag &&& ~~~(1#5 <<< i.val) } }
    s1.ints.selected = some i →
    (s2.acceptsWord a s1.regs.pc = true →
      ∃ u t, s2.writeByte a (lowByte s1.regs.pc) = .ok u ∧ u.writeByte (a + 1) (highByte s1.regs.pc) = .ok t ∧
        step s = .next (State.afterCpu { t.setPc (0x0040 + 8 * BitVec.ofNat 16 i.val) with cost := 5 }) ∧
        t.regs = s2.regs ∧ t.ints.eiDelay = s1.ints.eiDelay ∧ t.ints.diDelay = s1.ints.diDelay ∧ t.ints.ime = false ∧
        t.ints.halted = false ∧ t.run = .running) ∧
    ∀ t, s2.writeWord a s1.regs.pc = .error t → step s = .next t

/-- R388, R392 stage (c), R395: a halted CPU that selects no source idles: only the tick, the sampled input, the cost 1
and the devices' advance by 4 T-cycles. -/
def Obligations.HaltedStepIdles : Prop :=
  ∀ s : State,
    s.run = .running →
    let s1 := s.sampleInput.tickDelays
    s1.ints.halted = true → s1.ints.ie &&& s1.ints.iflag = 0 →
    ∃ t, step s = .next t ∧ t = ((State.timerStep { s1 with cost := 1 } 4).displayStep 4) ∧ t.regs = s.regs ∧ t.mem = s.mem

/-- R41, R371, R393: in the fatal state no step is taken, and a running machine always has a next state: no step is
refused, and none stops before a fatal state. -/
def Obligations.StepsExactlyWhileRunning : Prop :=
  (∀ (s : State) (k : Fatal), s.run = .fatal k → step s = .fault (.fatalState k)) ∧
  (∀ s : State, s.run = .running → ∃ t, step s = .next t)

/-- R475: from END no instruction ever executes again: at every later step boundary the machine is at END and running,
with the registers, memory, cartridge and IE as they were. -/
def Obligations.EndIsForEver : Prop :=
  ∀ (n : Nat) (s : State), s.run = .running → s.atEnd →
    ∃ t : State, Host.Core.run Sys2Proof.core n s = .next t ∧ t.atEnd ∧ t.run = .running ∧ t.regs = s.regs ∧
      t.mem = s.mem ∧ t.cart = s.cart ∧ t.dmaReg = s.dmaReg ∧ t.joypSel = s.joypSel

/-! ## Memory -/

/-- R91 to R95, R97: a byte written to VRAM, WRAM, its echo, OAM or HRAM reads back, and every read that does not share its
store reads as before. The byte at 0xE000 + k is the byte at 0xC000 + k, for both reads and writes. -/
def Obligations.StoredBytesReadBack : Prop :=
  (∀ (s : State) (a : Word) (v : Byte), s.mem.wf = true → storesBytes a →
      ∃ t, s.writeByte a v = .ok t ∧ t.busRead a = some v ∧
        (∀ b, region b ≠ region a → t.busRead b = s.busRead b) ∧ t = { s with mem := t.mem } ∧ t.mem.wf = true) ∧
  (∀ (s : State) (k : Nat) (v : Byte), k < 7680 →
      let a := BitVec.ofNat 16 (0xC000 + k)
      let b := BitVec.ofNat 16 (0xE000 + k)
      s.busRead b = s.busRead a ∧ s.writeByte b v = s.writeByte a v ∧
        (s.mem.wf = true → ∃ t, s.writeByte b v = .ok t ∧ t.busRead a = some v))

/-- R96, R104, R106: the unusable band reads 0xFF and ignores writes; a plain I/O byte reads back what was written, with no
other effect. -/
def Obligations.UnusableBandAndPlainIoBytes : Prop :=
  (∀ (s : State) (a : Word) (v : Byte), 0xFEA0 ≤ a.toNat → a.toNat ≤ 0xFEFF →
      s.busRead a = some 0xFF ∧ s.writeByte a v = .ok s) ∧
  (∀ (s : State) (a : Word) (v : Byte), s.mem.wf = true → plainIo a →
      ∃ t, s.writeByte a v = .ok t ∧ t.busRead a = some v ∧ (∀ b, b ≠ a → t.busRead b = s.busRead b) ∧
        t = { s with mem := t.mem })

/-- R44 to R48, R61, R99, R403, R404: the reads and writes of the registers of the timer and the interrupt controller. -/
def Obligations.TimerAndInterruptRegisters : Prop :=
  (∀ (s : State) (v : Byte),
      (s.busRead 0xFF04 = some s.timer.div ∧
        s.writeByte 0xFF04 v = .ok { s with timer := { s.timer with div := 0, divAcc := 0 } }) ∧
      (s.busRead 0xFF05 = some s.timer.tima ∧ s.writeByte 0xFF05 v = .ok { s with timer := { s.timer with tima := v } }) ∧
      (s.busRead 0xFF06 = some s.timer.tma ∧ s.writeByte 0xFF06 v = .ok { s with timer := { s.timer with tma := v } }) ∧
      (s.busRead 0xFF07 = some (0xF8 ||| s.timer.tac.zeroExtend 8) ∧
        ∃ t, s.writeByte 0xFF07 v = .ok t ∧
          t = { s with timer := { s.timer with tac := v.truncate 3, timaAcc := t.timer.timaAcc } } ∧
          t.timer.timaAcc = s.timer.timaAcc % t.timer.period ∧
          t.timer.period =
            (if v.toNat % 4 = 0 then 1024 else if v.toNat % 4 = 1 then 16 else if v.toNat % 4 = 2 then 64 else 256))) ∧
  (∀ (s : State) (v : Byte),
      (s.busRead 0xFF0F = some (0xE0 ||| s.ints.iflag.zeroExtend 8) ∧
        s.writeByte 0xFF0F v = .ok { s with ints := { s.ints with iflag := v.truncate 5 } }) ∧
      (s.busRead 0xFFFF = some ((s.ieHigh.zeroExtend 8 <<< 5) ||| s.ints.ie.zeroExtend 8) ∧
        s.writeByte 0xFFFF v = .ok { s with ints := { s.ints with ie := v.truncate 5 } }))

/-- R50 to R54, R56 to R60: the reads and writes of the display's registers other than LCDC. -/
def Obligations.DisplayRegisters : Prop :=
  ∀ (s : State) (v : Byte),
    (s.busRead 0xFF41 =
        some (0x80 ||| (s.lcd.statEn.zeroExtend 8 <<< 3) ||| (if s.lcd.ly = s.lcd.lyc then 4 else 0) |||
          s.lcd.mode.code.zeroExtend 8) ∧
      s.writeByte 0xFF41 v = .ok { s with lcd := { s.lcd with statEn := (v >>> 3).truncate 4 } }) ∧
    (s.busRead 0xFF42 = some s.lcd.scy ∧ s.writeByte 0xFF42 v = .ok { s with lcd := { s.lcd with scy := v } }) ∧
    (s.busRead 0xFF43 = some s.lcd.scx ∧ s.writeByte 0xFF43 v = .ok { s with lcd := { s.lcd with scx := v } }) ∧
    (s.busRead 0xFF44 = some s.lcd.ly ∧ s.writeByte 0xFF44 v = .ok s) ∧
    (s.busRead 0xFF45 = some s.lcd.lyc ∧ s.writeByte 0xFF45 v = .ok { s with lcd := { s.lcd with lyc := v } }) ∧
    (s.busRead 0xFF47 = some s.lcd.bgp ∧ s.writeByte 0xFF47 v = .ok { s with lcd := { s.lcd with bgp := v } }) ∧
    (s.busRead 0xFF48 = some s.lcd.obp0 ∧ s.writeByte 0xFF48 v = .ok { s with lcd := { s.lcd with obp0 := v } }) ∧
    (s.busRead 0xFF49 = some s.lcd.obp1 ∧ s.writeByte 0xFF49 v = .ok { s with lcd := { s.lcd with obp1 := v } }) ∧
    (s.busRead 0xFF4A = some s.lcd.wy ∧ s.writeByte 0xFF4A v = .ok { s with lcd := { s.lcd with wy := v } }) ∧
    (s.busRead 0xFF4B = some s.lcd.wx ∧ s.writeByte 0xFF4B v = .ok { s with lcd := { s.lcd with wx := v } })

/-- R105: the input latch: bits 5:4 select the group, and a pressed button of a selected group reads 0. A sample takes the
host's next value of INPUT and changes nothing else; the last one stays where none is left (log 4). -/
def Obligations.InputLatch : Prop :=
  ∀ (s : State) (v : Byte),
    let i := s.input
    let directions := i.right.toNat + 2 * i.left.toNat + 4 * i.up.toNat + 8 * i.down.toNat
    let buttons := i.a.toNat + 2 * i.b.toNat + 4 * i.select.toNat + 8 * i.start.toNat
    let dir := if s.joypSel.getLsbD 0 then 0 else directions
    let btn := if s.joypSel.getLsbD 1 then 0 else buttons
    (∃ r, s.busRead 0xFF00 = some r ∧ r.toNat = 0xC0 + 16 * s.joypSel.toNat + (15 - (dir ||| btn))) ∧
      s.writeByte 0xFF00 v = .ok { s with joypSel := (v >>> 4).truncate 2 } ∧
      (∀ sample rest, s.inputQueue = sample :: rest → s.sampleInput = { s with input := sample, inputQueue := rest }) ∧
      (s.inputQueue = [] → s.sampleInput = s)

/-- R102, R55: a write of v to 0xFF46 fills OAM with the bytes at v × 256, read with DMA_REG already v, for every page,
and every other read but that of 0xFF46 gives what it gave. -/
def Obligations.DmaCopiesAPageIntoOam : Prop :=
  ∀ (s : State) (v : Byte), s.busRead 0xFF46 = some s.dmaReg ∧ (s.mem.wf = true → s.accepts 0xFF46 v = true →
    ∃ t, s.writeByte 0xFF46 v = .ok t ∧ t.busRead 0xFF46 = some v ∧ t = { s with dmaReg := v, mem := t.mem } ∧
      (∀ i < 160, t.busRead (BitVec.ofNat 16 (0xFE00 + i)) =
        State.busRead { s with dmaReg := v } (BitVec.ofNat 16 (256 * v.toNat + i))) ∧
      (∀ b, b ≠ 0xFF46 → b.toNat < 0xFE00 ∨ 0xFEA0 ≤ b.toNat → t.busRead b = s.busRead b))

/-- R101, R112: a byte write completes exactly where it is accepted; where it is not, the step is in the fatal state
UnmappedAccess, and a declined cartridge write has no other effect. -/
def Obligations.WritesCompleteWhereAccepted : Prop :=
  ∀ (s : State) (a : Word) (v : Byte),
    (s.accepts a v = true → ∃ t, s.writeByte a v = .ok t) ∧
    (s.accepts a v = false →
      (∃ t b d, s.writeByte a v = .error t ∧ t.run = .fatal (.unmappedAccess b d)) ∧
        (region a = .cart → s.writeByte a v = .error { s with run := .fatal (.unmappedAccess a .write), cost := 0 }))

/-- R101, R113, R372: with no cartridge, a non-banked or a banked one, every read gives a byte and every write completes, so
the block itself never raises UnmappedAccess. The non-banked cartridge reads its image and ignores writes; the banked one
reads the image from bank × 0x4000 at 0x4000..0x7FFF, and a write to 0x2000..0x3FFF selects the bank of its low five bits,
or 1 where they are 0. -/
def Obligations.ReferenceCartridges : Prop :=
  (∀ (s : State), (∀ d w, s.cart ≠ .other d w) →
      ∀ (a : Word) (v : Byte),
        (∃ r, s.busRead a = some r) ∧ ∃ t, s.writeByte a v = .ok t ∧ ∀ d w, t.cart ≠ .other d w) ∧
  (∀ (image : Memory) (bank : BitVec 5) (a : Word) (v : Byte),
      Cart.none.read a = some 0xFF ∧ Cart.none.write a v = some .none ∧
      (a.toNat < 0x8000 → (Cart.nonBanked image).read a = some (image.read a.toNat)) ∧
      (Cart.nonBanked image).write a v = some (.nonBanked image) ∧
      (0x4000 ≤ a.toNat → a.toNat < 0x8000 →
        (Cart.banked image bank).read a = some (image.read (bank.toNat * 0x4000 + (a.toNat - 0x4000)))) ∧
      (0x2000 ≤ a.toNat → a.toNat < 0x4000 → ∃ b, (Cart.banked image bank).write a v = some (.banked image b) ∧
        b.toNat = if v.toNat % 32 = 0 then 1 else v.toNat % 32))

/-! ## Frames -/

/-- R36, R109, R200: an instruction that stores nothing leaves every byte of memory as it reads, and the timer, the
display, the cartridge, the DMA register, the input latch, IE and IF as they are. -/
def Obligations.InstructionsThatStoreNothingLeaveMemory : Prop :=
  ∀ (i : Instr) (s t : State), i.WellFormed = true → i.form.writeAddr s = none → exec i s = .next t →
    (∀ b, t.busRead b = s.busRead b) ∧
      t = { s with regs := t.regs, ints := { t.ints with ie := s.ints.ie, iflag := s.ints.iflag }, run := t.run, cost := t.cost } ∧
      t.ints.ie = s.ints.ie ∧ t.ints.iflag = s.ints.iflag

/-- R92, R110: an instruction that stores n bytes at a changes no read but those a write at a, or at a + 1, affects, and
of the interrupt controller only IE and IF. -/
def Obligations.StoringInstructionsChangeOnlyTheirTarget : Prop :=
  ∀ (i : Instr) (s t : State) (a : Word) (n : Nat), i.WellFormed = true → i.form.writeAddr s = some (a, n) →
    exec i s = .next t →
    (∀ b, (∀ k < n, affects (a + BitVec.ofNat 16 k) b = false) → t.busRead b = s.busRead b) ∧
      t.ints = { s.ints with ie := t.ints.ie, iflag := t.ints.iflag } ∧ t.input = s.input ∧ t.inputQueue = s.inputQueue ∧
      t.ieHigh = s.ieHigh

/-- R36: no 8-bit register but a form's own changes, SP only for the forms that write it, and PC only for a control
transfer. -/
def Obligations.InstructionsChangeOnlyTheirRegisters : Prop :=
  ∀ (i : Instr) (s t : State), i.WellFormed = true → exec i s = .next t →
    (∀ r, r ∉ i.form.regsWritten → t.reg r = s.reg r) ∧ (i.form.writesSp = false → t.regs.sp = s.regs.sp) ∧
      (i.form.writesPc = false → t.regs.pc = s.regs.pc)

/-- R33, R394, R412, and the `flags` and `cycles` columns of the opcode table: an instruction that completes changes each flag
as its column says, leaves F whole where the column is all `-`, and costs an entry of its `cycles` column, at most 6. -/
def Obligations.FlagsAndCostsFollowTheTable : Prop :=
  (∀ (i : Instr) (s t : State), i.WellFormed = true → exec i s = .next t → t.run = .running →
      let col := i.form.flagColumn
      col.z.allows s.flagZ t.flagZ ∧ col.n.allows s.flagN t.flagN ∧ col.h.allows s.flagH t.flagH ∧ col.c.allows s.flagC t.flagC ∧
        (col = ⟨.kept, .kept, .kept, .kept⟩ → t.regs.f = s.regs.f) ∧
        (col ≠ ⟨.kept, .kept, .kept, .kept⟩ → t.regs.f &&& 0x0F = 0)) ∧
  (∀ (i : Instr) (s t : State), exec i s = .next t → t.run = .running → t.cost ∈ i.form.cycles ∧ 1 ≤ t.cost ∧ t.cost ≤ 6)

/-- R350, R388: no instruction but DI, EI, HALT and RETI changes IME, halted or a delay counter. -/
def Obligations.OnlySystemInstructionsActOnTheController : Prop :=
  ∀ (i : Instr) (s t : State), exec i s = .next t →
    i.form ≠ .di → i.form ≠ .ei → i.form ≠ .halt → i.form ≠ .reti →
    t.ints.ime = s.ints.ime ∧ t.ints.halted = s.ints.halted ∧ t.ints.eiDelay = s.ints.eiDelay ∧
      t.ints.diDelay = s.ints.diDelay

/-! ## The timer -/

/-- R400 to R402: after t T-cycles the divider has counted the whole periods of 256 in its accumulator, modulo 256, whatever
TAC says. While disabled the counter stands and nothing is requested. From an empty accumulator, one period takes TIMA to
its successor, or from 0xFF to TMA with the Timer request, and fewer T-cycles change nothing. -/
def Obligations.DividerAndCounter : Prop :=
  (∀ (s : State) (t : Nat),
      (s.timerStep t).timer.div.toNat = (s.timer.div.toNat + (s.timer.divAcc + t) / 256) % 256 ∧
        (s.timerStep t).timer.divAcc = (s.timer.divAcc + t) % 256 ∧
        (s.timer.tac.getLsbD 2 = false → (s.timerStep t).ints = s.ints ∧ (s.timerStep t).timer.tima = s.timer.tima ∧
          (s.timerStep t).timer.timaAcc = s.timer.timaAcc)) ∧
  (∀ (s : State) (t : Nat), s.timer.tac.getLsbD 2 = true → s.timer.timaAcc = 0 →
      (t < s.timer.period → (s.timerStep t).timer.tima = s.timer.tima ∧ (s.timerStep t).ints = s.ints) ∧
      (t = s.timer.period → s.timer.tima = 0xFF →
        (s.timerStep t).timer.tima = s.timer.tma ∧ (s.timerStep t).ints = { s.ints with iflag := s.ints.iflag ||| 0b00100 }) ∧
      (t = s.timer.period → s.timer.tima ≠ 0xFF →
        (s.timerStep t).timer.tima.toNat = s.timer.tima.toNat + 1 ∧ (s.timerStep t).ints = s.ints))

/-- R400, R401: only the sum of the T-cycles matters to the timer. -/
def Obligations.TimerStepsAddUp : Prop :=
  ∀ (s : State) (t u : Nat), (s.timerStep t).timerStep u = s.timerStep (t + u)

/-! ## The display -/

/-- R412: "The loop form gives the same result for any t": only the sum of the T-cycles matters to the display. -/
def Obligations.DisplayStepsAddUp : Prop :=
  ∀ (s : State) (t u : Nat), (s.displayStep t).displayStep u = s.displayStep (t + u)

/-- R427: the display's law: from the start of line 0, 456 T-cycles fed in any split reach line 1 in sprite scan; from
the power-on phase (R417) LY becomes 1 after 204. -/
def Obligations.LineTakes456Cycles : Prop :=
  ∀ s : State, s.lcd.powered = true → s.lcd.ly = 0 → s.lcd.modeClock = 0 →
    (s.lcd.mode = .spriteScan → ∀ ts : List Nat, ts.sum = 456 →
      (ts.foldl State.displayStep s).lcd.ly = 1 ∧ (ts.foldl State.displayStep s).lcd.mode = .spriteScan ∧
        (ts.foldl State.displayStep s).lcd.modeClock = 0) ∧
    (s.lcd.mode = .hblank → (s.displayStep 203).lcd.ly = 0 ∧ (s.displayStep 204).lcd.ly = 1)

/-- R411, R415, R493: from the start of line 0, 65664 T-cycles reach line 144 in vertical blank with V-Blank requested,
and 70224 T-cycles reach the start of line 0 again. -/
def Obligations.FrameTakes70224Cycles : Prop :=
  ∀ s : State,
    s.lcd.powered = true → s.lcd.mode = .spriteScan → s.lcd.ly = 0 → s.lcd.modeClock = 0 →
    ((s.displayStep 65664).lcd.ly = 144 ∧ (s.displayStep 65664).lcd.mode = .vblank ∧
        (s.displayStep 65664).lcd.modeClock = 0 ∧ (s.displayStep 65664).ints.iflag.getLsbD 0 = true) ∧
      (s.displayStep 70224).lcd.ly = 0 ∧ (s.displayStep 70224).lcd.mode = .spriteScan ∧ (s.displayStep 70224).lcd.modeClock = 0

/-- R410, R416, R417, R49: a write to LCDC with bit 7 clear stores it, resets LY, mode and clock and clears FB; with bit
7 set it only stores it; and while bit 7 is clear the display does nothing. -/
def Obligations.PowerOffResetsTheDisplay : Prop :=
  ∀ (s : State) (v : Byte),
    s.busRead 0xFF40 = some s.lcd.lcdc ∧
    (v.getLsbD 7 = false → s.writeByte 0xFF40 v =
      .ok { s with lcd := { s.lcd with lcdc := v, ly := 0, mode := .hblank, modeClock := 0,
                                       fb := List.replicate 144 (List.replicate 160 0) } }) ∧
    (v.getLsbD 7 = true → s.writeByte 0xFF40 v = .ok { s with lcd := { s.lcd with lcdc := v } }) ∧
    (s.lcd.lcdc.getLsbD 7 = false → ∀ t, s.displayStep t = s)

/-- R412 to R414: the requests of one mode end: on leaving mode 3 for mode 0, and on the start of a line, the LCD status
request is made exactly where an enabled event happens, and mode 3 is entered silently. -/
def Obligations.StatusRequestsOfModeEnds : Prop :=
  ∀ (s : State) (t : Nat), s.lcd.powered = true → s.lcd.modeClock < s.lcd.mode.duration →
    s.lcd.mode.duration ≤ s.lcd.modeClock + t → s.lcd.modeClock + t < s.lcd.mode.duration + 80 →
    let d := s.displayStep t
    let next := s.lcd.ly + 1
    (s.lcd.mode = .spriteScan → d.lcd.mode = .pixelTransfer ∧ d.ints = s.ints) ∧
    (s.lcd.mode = .pixelTransfer → d.lcd.mode = .hblank ∧
      d.ints.iflag = s.ints.iflag ||| (if s.lcd.statEn.getLsbD 0 then 0b00010 else 0)) ∧
    (s.lcd.mode = .hblank → next ≠ 144 → d.lcd.mode = .spriteScan ∧ d.lcd.ly = next ∧
      d.ints.iflag = s.ints.iflag |||
        (if s.lcd.statEn.getLsbD 2 ∨ (next = s.lcd.lyc ∧ s.lcd.statEn.getLsbD 3) then 0b00010 else 0)) ∧
    (s.lcd.mode = .hblank → next = 144 → d.lcd.mode = .vblank ∧ d.lcd.ly = 144 ∧
      d.ints.iflag = s.ints.iflag ||| 0b00001 |||
        (if s.lcd.statEn.getLsbD 1 ∨ (next = s.lcd.lyc ∧ s.lcd.statEn.getLsbD 3) then 0b00010 else 0)) ∧
    (s.lcd.mode = .vblank → next ≠ 154 → d.lcd.mode = .vblank ∧ d.lcd.ly = next ∧
      d.ints.iflag = s.ints.iflag ||| (if next = s.lcd.lyc ∧ s.lcd.statEn.getLsbD 3 then 0b00010 else 0)) ∧
    (s.lcd.mode = .vblank → next = 154 → d.lcd.mode = .spriteScan ∧ d.lcd.ly = 0 ∧
      d.ints.iflag = s.ints.iflag |||
        (if s.lcd.statEn.getLsbD 2 ∨ (0 = s.lcd.lyc ∧ s.lcd.statEn.getLsbD 3) then 0b00010 else 0))

/-- R411, R418 to R422, R424 to R426: at the exit of mode 3 the row of line LY is drawn, from the memory and registers of
that moment, and no other row of FB changes. Of the 160 columns, one where no selected sprite puts a shade has the shade
of the window or background there, or 0 with LCDC bit 0 clear; any other has the shade of the first selected sprite that
puts one. With LCDC bits 0 and 1 clear the row is 0 throughout. -/
def Obligations.PixelTransferEndsWithTheRow : Prop :=
  ∀ (s : State) (t : Nat), s.lcd.powered = true → s.lcd.mode = .pixelTransfer → s.lcd.modeClock < 172 →
    172 ≤ s.lcd.modeClock + t → s.lcd.modeClock + t < 172 + 204 → s.lcd.ly.toNat < s.lcd.fb.length →
    let ly := s.lcd.ly.toNat
    (∀ y, y ≠ ly → (s.displayStep t).lcd.fb[y]? = s.lcd.fb[y]?) ∧
    ∃ row, (s.displayStep t).lcd.fb[ly]? = some row ∧ row.length = 160 ∧
      (s.lcd.lcdc.getLsbD 0 = false → s.lcd.lcdc.getLsbD 1 = false → row = List.replicate 160 0) ∧
      ∀ x < 160, ∃ shade, row[x]? = some shade ∧
        ((∀ k ∈ s.selectSprites ly, s.spriteShade ly x k = none) →
          shade.toNat = if s.lcd.lcdc.getLsbD 0 then paletteShade s.lcd.bgp (s.layerIndex ly x) else 0) ∧
        ∀ k v, k ∈ s.selectSprites ly → s.spriteShade ly x k = some v →
          (∀ j ∈ s.selectSprites ly, j < k → s.spriteShade ly x j = none) → shade.toNat = v

/-- R423: at most 10 sprites are drawn on a line, each an entry of the table that covers it, in table order, and an
entry that covers the line is left out only where ten earlier ones do; none with sprites off. -/
def Obligations.AtMostTenSpritesPerLine : Prop :=
  ∀ (s : State) (ly : Nat), (s.lcd.lcdc.getLsbD 1 = false → s.selectSprites ly = []) ∧ (s.lcd.lcdc.getLsbD 1 = true →
    let h := if s.lcd.lcdc.getLsbD 2 then 16 else 8
    let covers := fun k => (s.mem.read (0xFE00 + 4 * k)).toNat ≤ ly + 16 ∧ ly + 16 < (s.mem.read (0xFE00 + 4 * k)).toNat + h
    (s.selectSprites ly).length ≤ 10 ∧ (s.selectSprites ly).Pairwise (· < ·) ∧
      (∀ k ∈ s.selectSprites ly, k < 40 ∧ covers k) ∧
      (∀ k < 40, covers k → k ∉ s.selectSprites ly → (s.selectSprites ly).length = 10 ∧ ∀ j ∈ s.selectSprites ly, j < k))

/-! ## Reset and the invariant -/

/-- R62 to R67: the values the spec gives for reset, and what the registers read then; 0xFFFF reads `IE_HIGH_READ << 5`. -/
def Obligations.ResetValuesAndReads : Prop :=
  (State.reset.regs = { a := 0x01, f := 0xB0, b := 0x00, c := 0x13, d := 0x00, e := 0xD8, h := 0x01, l := 0x4D,
                         sp := 0xFFFE, pc := 0x0100 } ∧
      State.reset.ints = { ie := 0, iflag := 1, ime := false, halted := false, eiDelay := 0, diDelay := 0 } ∧
      State.reset.timer = { div := 0xAB, divAcc := 0, tima := 0, tma := 0, tac := 0, timaAcc := 0 } ∧
      State.reset.lcd = { mode := .spriteScan, modeClock := 0, ly := 0, lcdc := 0x91, statEn := 0, scy := 0, scx := 0,
                          lyc := 0, bgp := 0xFC, obp0 := 0xFF, obp1 := 0xFF, wy := 0, wx := 0,
                          fb := List.replicate 144 (List.replicate 160 0) } ∧
      State.reset.dmaReg = 0xFF ∧ State.reset.joypSel = 0b11 ∧ State.reset.run = .running) ∧
  (∀ high : BitVec 3,
      let s : State := { State.reset with ieHigh := high }
      s.busRead 0xFF04 = some 0xAB ∧ s.busRead 0xFF05 = some 0x00 ∧ s.busRead 0xFF06 = some 0x00 ∧ s.busRead 0xFF07 = some 0xF8 ∧
        s.busRead 0xFF0F = some 0xE1 ∧ s.busRead 0xFF40 = some 0x91 ∧ s.busRead 0xFF41 = some 0x86 ∧
        s.busRead 0xFF42 = some 0x00 ∧ s.busRead 0xFF43 = some 0x00 ∧ s.busRead 0xFF44 = some 0x00 ∧
        s.busRead 0xFF45 = some 0x00 ∧ s.busRead 0xFF46 = some 0xFF ∧ s.busRead 0xFF47 = some 0xFC ∧
        s.busRead 0xFF48 = some 0xFF ∧ s.busRead 0xFF49 = some 0xFF ∧ s.busRead 0xFF4A = some 0x00 ∧
        s.busRead 0xFF4B = some 0x00 ∧ s.busRead 0xFFFF = some (high.zeroExtend 8 <<< 5))

/-- The invariant holds right after reset. -/
def Obligations.InvariantHoldsAtReset : Prop := State.reset.Inv

/-- Every step keeps the invariant (`State.Inv`): memory canonical and within the block's stores (R40), F's low nibble
zero (R32), both timer phases below their periods (R38, R404), LY in 0..153 and mode 1 exactly on lines 144..153 (R39,
R411), the mode's clock below its duration (R412), the display as reset while off (R410), FB 144 rows of 160 (R426), and
a step cost of at most 6 (R412). -/
def Obligations.EveryStepKeepsTheInvariant : Prop :=
  ∀ s t : State, s.Inv → step s = .next t → t.Inv
end

