-- ==== Sys2Proof/Laws/Bits.lean ====
section
/-! SUPPORT. The laws of bytes joined to words and words split to bytes (R9, R31, R107). -/

namespace Sys2Proof

theorem toNat_joinBytes (hi lo : Byte) : (joinBytes hi lo).toNat = 256 * hi.toNat + lo.toNat := by
  simp only [joinBytes, BitVec.toNat_append]
  rw [Nat.shiftLeft_eq, Nat.mul_comm, ← Nat.two_pow_add_eq_or_of_lt lo.isLt]

theorem toNat_highByte (v : Word) : (highByte v).toNat = v.toNat / 256 := by
  simp only [highByte, BitVec.extractLsb'_toNat, Nat.shiftRight_eq_div_pow]
  have := v.isLt
  omega

theorem toNat_lowByte (v : Word) : (lowByte v).toNat = v.toNat % 256 := by
  simp [lowByte, BitVec.extractLsb'_toNat]

@[simp] theorem highByte_joinBytes (hi lo : Byte) : highByte (joinBytes hi lo) = hi := by
  apply BitVec.eq_of_toNat_eq
  rw [toNat_highByte, toNat_joinBytes]
  have := lo.isLt
  omega

@[simp] theorem lowByte_joinBytes (hi lo : Byte) : lowByte (joinBytes hi lo) = lo := by
  apply BitVec.eq_of_toNat_eq
  rw [toNat_lowByte, toNat_joinBytes]
  have := lo.isLt
  omega

@[simp] theorem joinBytes_highByte_lowByte (v : Word) : joinBytes (highByte v) (lowByte v) = v := by
  apply BitVec.eq_of_toNat_eq
  rw [toNat_joinBytes, toNat_highByte, toNat_lowByte]
  omega

theorem joinBytes_and (a b c d : Byte) : joinBytes a b &&& joinBytes c d = joinBytes (a &&& c) (b &&& d) := by
  apply BitVec.eq_of_getLsbD_eq
  intro i _
  simp only [joinBytes]
  rw [BitVec.getLsbD_and, BitVec.getLsbD_append, BitVec.getLsbD_append, BitVec.getLsbD_append]
  split <;> simp

/-- R32, R207: what AF keeps of a word. -/
theorem joinBytes_masked (v : Word) : joinBytes (highByte v) (lowByte v &&& 0xF0) = v &&& 0xFFF0 := by
  have h : (0xFFF0 : Word) = joinBytes 0xFF 0xF0 := rfl
  conv => rhs; rw [← joinBytes_highByte_lowByte v, h, joinBytes_and]
  congr 1
  exact BitVec.and_allOnes.symm

end Sys2Proof
end

