-- ==== Sys2Proof/Laws/Memory.lean ====
section
/-! SUPPORT. The laws of the byte store: read after write, and the canonical form. -/

namespace Sys2Proof.Machine

namespace Memory

/-- A list in canonical form starts with a non-blank cell below all the others, which are in canonical form. -/
theorem wf_cons {k : Nat} {v : Byte} {rest : Memory} :
    Memory.wf ((k, v) :: rest) = true ↔ v ≠ blank ∧ (∀ cell ∈ rest, k < cell.1) ∧ Memory.wf rest = true := by
  simp [Memory.wf, and_assoc]

/-- An address that no cell has reads blank. -/
theorem read_of_not_listed {m : Memory} {a : Nat} (h : ∀ cell ∈ m, cell.1 ≠ a) : m.read a = blank := by
  induction m with
  | nil => rfl
  | cons cell rest ih =>
    obtain ⟨k, v⟩ := cell
    simp only [Memory.read]
    rw [if_neg (h (k, v) (by simp))]
    exact ih fun c hc => h c (by simp [hc])

/-- A write adds no address but its own. -/
theorem mem_write {m : Memory} {a : Nat} {v : Byte} {cell : Host.Cell} (h : cell ∈ m.write a v) :
    cell = (a, v) ∨ cell ∈ m := by
  induction m with
  | nil =>
    simp only [Memory.write] at h
    split at h <;> simp_all
  | cons head rest ih =>
    obtain ⟨k, w⟩ := head
    simp only [Memory.write] at h
    split at h
    · rcases List.mem_cons.mp h with rfl | h
      · simp
      · rcases ih h with h | h <;> simp [h]
    · split at h
      · split at h
        · exact .inr (by simp [h])
        · rcases List.mem_cons.mp h with h | h <;> simp [h]
      · split at h
        · exact .inr h
        · rcases List.mem_cons.mp h with h | h
          · exact .inl h
          · exact .inr h

/-- A write leaves every other byte alone. -/
theorem read_write_other (m : Memory) {a b : Nat} (v : Byte) (h : a ≠ b) : (m.write a v).read b = m.read b := by
  induction m with
  | nil =>
    simp only [Memory.write]
    split
    · rfl
    · simp [Memory.read, h]
  | cons head rest ih =>
    obtain ⟨k, w⟩ := head
    simp only [Memory.write]
    split
    · simp only [Memory.read, ih]
    · split
      · rename_i hk
        subst hk
        split <;> simp [Memory.read, h]
      · split
        · rfl
        · simp [Memory.read, h]

/-- A byte reads as it was last written. -/
theorem read_write_same {m : Memory} (hm : m.wf = true) (a : Nat) (v : Byte) : (m.write a v).read a = v := by
  induction m with
  | nil =>
    simp only [Memory.write]
    split
    · simp [Memory.read, *]
    · simp [Memory.read]
  | cons head rest ih =>
    obtain ⟨k, w⟩ := head
    obtain ⟨-, hlt, hrest⟩ := wf_cons.mp hm
    simp only [Memory.write]
    split
    · rename_i hk
      simp only [Memory.read]
      rw [if_neg (by omega), ih hrest]
    · split
      · rename_i hk
        split
        · rename_i hv
          rw [hv]
          exact read_of_not_listed fun c hc => by have := hlt c hc; omega
        · simp [Memory.read]
      · split
        · rename_i hv
          rw [hv]
          refine read_of_not_listed fun c hc => ?_
          rcases List.mem_cons.mp hc with rfl | hc
          · assumption
          · have := hlt c hc
            omega
        · simp [Memory.read]

/-- A write keeps the canonical form. -/
theorem write_wf {m : Memory} (hm : m.wf = true) (a : Nat) (v : Byte) : (m.write a v).wf = true := by
  induction m with
  | nil =>
    simp only [Memory.write]
    split
    · rfl
    · exact wf_cons.mpr ⟨by assumption, by simp, rfl⟩
  | cons head rest ih =>
    obtain ⟨k, w⟩ := head
    obtain ⟨hw, hlt, hrest⟩ := wf_cons.mp hm
    simp only [Memory.write]
    split
    · refine wf_cons.mpr ⟨hw, fun c hc => ?_, ih hrest⟩
      rcases mem_write hc with rfl | hc
      · assumption
      · exact hlt c hc
    · split
      · split
        · exact hrest
        · rename_i hk hv
          exact wf_cons.mpr ⟨hv, fun c hc => hk ▸ hlt c hc, hrest⟩
      · split
        · exact hm
        · rename_i hv
          refine wf_cons.mpr ⟨hv, fun c hc => ?_, hm⟩
          rcases List.mem_cons.mp hc with rfl | hc
          · show a < k
            omega
          · have := hlt c hc
            omega

/-- What a byte reads after a write. -/
theorem read_write {m : Memory} (hm : m.wf = true) (a b : Nat) (v : Byte) :
    (m.write a v).read b = if a = b then v else m.read b := by
  split
  · rename_i h
    rw [← h, read_write_same hm]
  · rw [read_write_other m v ‹_›]

/-- Writing the byte that is there changes nothing. -/
theorem write_read_self {m : Memory} (hm : m.wf = true) (a : Nat) : m.write a (m.read a) = m := by
  induction m with
  | nil => rfl
  | cons head rest ih =>
    obtain ⟨k, w⟩ := head
    obtain ⟨hw, hlt, hrest⟩ := wf_cons.mp hm
    by_cases hk : k = a
    · subst hk
      simp [Memory.write, Memory.read, hw]
    · simp only [Memory.read, if_neg hk, Memory.write]
      split
      · rw [ih hrest]
      · rw [if_pos]
        exact read_of_not_listed fun c hc => by have := hlt c hc; omega

/-- Two stores in canonical form that read alike are the same list. -/
theorem eq_of_read {m n : Memory} (hm : m.wf = true) (hn : n.wf = true) (h : ∀ a, m.read a = n.read a) : m = n := by
  induction m generalizing n with
  | nil =>
    cases n with
    | nil => rfl
    | cons c n => exact absurd (by simpa [Memory.read] using (h c.1).symm) (wf_cons.mp hn).1
  | cons c m ih =>
    obtain ⟨hc, hlt, hm'⟩ := wf_cons.mp hm
    cases n with
    | nil => exact absurd (by simpa [Memory.read] using h c.1) hc
    | cons d n =>
      obtain ⟨hd, hlt', hn'⟩ := wf_cons.mp hn
      have hk : c.1 = d.1 := by
        rcases Nat.lt_trichotomy c.1 d.1 with hcd | hcd | hcd
        · have hr := h c.1
          rw [read_of_not_listed (m := d :: n) (by
            intro x hx; rcases List.mem_cons.mp hx with rfl | hx
            · omega
            · have := hlt' x hx; omega)] at hr
          exact absurd (by simpa [Memory.read] using hr) hc
        · exact hcd
        · have hr := h d.1
          rw [read_of_not_listed (m := c :: m) (by
            intro x hx; rcases List.mem_cons.mp hx with rfl | hx
            · omega
            · have := hlt x hx; omega)] at hr
          exact absurd (by simpa [Memory.read] using hr.symm) hd
      have hv : c.2 = d.2 := by
        have := h c.1
        rw [Memory.read, if_pos rfl, Memory.read, if_pos hk.symm] at this
        exact this
      rw [ih hm' hn', Prod.ext hk hv]
      intro a
      by_cases ha : c.1 = a
      · rw [read_of_not_listed (by intro x hx; have := hlt x hx; omega),
          read_of_not_listed (by intro x hx; have := hlt' x hx; omega)]
      · have := h a
        rwa [Memory.read, if_neg ha, Memory.read, if_neg (hk ▸ ha)] at this

end Memory

end Sys2Proof.Machine
end

