-- ==== Sys2Proof/Laws/State.lean ====
section
/-! SUPPORT. One lemma per field per update of the state, and the laws of the registers, pairs and flags. -/

namespace Sys2Proof.Machine

/-! ## Updates of the CPU registers leave every other part alone -/

@[simp] theorem State.setReg_ints (s : State) (r : Reg8) (v : Byte) : (s.setReg r v).ints = s.ints := by cases r <;> rfl
@[simp] theorem State.setReg_timer (s : State) (r : Reg8) (v : Byte) : (s.setReg r v).timer = s.timer := by cases r <;> rfl
@[simp] theorem State.setReg_lcd (s : State) (r : Reg8) (v : Byte) : (s.setReg r v).lcd = s.lcd := by cases r <;> rfl
@[simp] theorem State.setReg_mem (s : State) (r : Reg8) (v : Byte) : (s.setReg r v).mem = s.mem := by cases r <;> rfl
@[simp] theorem State.setReg_dmaReg (s : State) (r : Reg8) (v : Byte) : (s.setReg r v).dmaReg = s.dmaReg := by cases r <;> rfl
@[simp] theorem State.setReg_joypSel (s : State) (r : Reg8) (v : Byte) : (s.setReg r v).joypSel = s.joypSel := by cases r <;> rfl
@[simp] theorem State.setReg_cart (s : State) (r : Reg8) (v : Byte) : (s.setReg r v).cart = s.cart := by cases r <;> rfl
@[simp] theorem State.setReg_input (s : State) (r : Reg8) (v : Byte) : (s.setReg r v).input = s.input := by cases r <;> rfl
@[simp] theorem State.setReg_inputQueue (s : State) (r : Reg8) (v : Byte) : (s.setReg r v).inputQueue = s.inputQueue := by cases r <;> rfl
@[simp] theorem State.setReg_ieHigh (s : State) (r : Reg8) (v : Byte) : (s.setReg r v).ieHigh = s.ieHigh := by cases r <;> rfl
@[simp] theorem State.setReg_run (s : State) (r : Reg8) (v : Byte) : (s.setReg r v).run = s.run := by cases r <;> rfl
@[simp] theorem State.setReg_cost (s : State) (r : Reg8) (v : Byte) : (s.setReg r v).cost = s.cost := by cases r <;> rfl

@[simp] theorem State.setF_ints (s : State) (v : Byte) : (s.setF v).ints = s.ints := rfl
@[simp] theorem State.setF_timer (s : State) (v : Byte) : (s.setF v).timer = s.timer := rfl
@[simp] theorem State.setF_lcd (s : State) (v : Byte) : (s.setF v).lcd = s.lcd := rfl
@[simp] theorem State.setF_mem (s : State) (v : Byte) : (s.setF v).mem = s.mem := rfl
@[simp] theorem State.setF_dmaReg (s : State) (v : Byte) : (s.setF v).dmaReg = s.dmaReg := rfl
@[simp] theorem State.setF_joypSel (s : State) (v : Byte) : (s.setF v).joypSel = s.joypSel := rfl
@[simp] theorem State.setF_cart (s : State) (v : Byte) : (s.setF v).cart = s.cart := rfl
@[simp] theorem State.setF_input (s : State) (v : Byte) : (s.setF v).input = s.input := rfl
@[simp] theorem State.setF_inputQueue (s : State) (v : Byte) : (s.setF v).inputQueue = s.inputQueue := rfl
@[simp] theorem State.setF_ieHigh (s : State) (v : Byte) : (s.setF v).ieHigh = s.ieHigh := rfl
@[simp] theorem State.setF_run (s : State) (v : Byte) : (s.setF v).run = s.run := rfl
@[simp] theorem State.setF_cost (s : State) (v : Byte) : (s.setF v).cost = s.cost := rfl

@[simp] theorem State.setFlags_ints (s : State) (z n h c : Bool) : (s.setFlags z n h c).ints = s.ints := rfl
@[simp] theorem State.setFlags_timer (s : State) (z n h c : Bool) : (s.setFlags z n h c).timer = s.timer := rfl
@[simp] theorem State.setFlags_lcd (s : State) (z n h c : Bool) : (s.setFlags z n h c).lcd = s.lcd := rfl
@[simp] theorem State.setFlags_mem (s : State) (z n h c : Bool) : (s.setFlags z n h c).mem = s.mem := rfl
@[simp] theorem State.setFlags_dmaReg (s : State) (z n h c : Bool) : (s.setFlags z n h c).dmaReg = s.dmaReg := rfl
@[simp] theorem State.setFlags_joypSel (s : State) (z n h c : Bool) : (s.setFlags z n h c).joypSel = s.joypSel := rfl
@[simp] theorem State.setFlags_cart (s : State) (z n h c : Bool) : (s.setFlags z n h c).cart = s.cart := rfl
@[simp] theorem State.setFlags_input (s : State) (z n h c : Bool) : (s.setFlags z n h c).input = s.input := rfl
@[simp] theorem State.setFlags_inputQueue (s : State) (z n h c : Bool) : (s.setFlags z n h c).inputQueue = s.inputQueue := rfl
@[simp] theorem State.setFlags_ieHigh (s : State) (z n h c : Bool) : (s.setFlags z n h c).ieHigh = s.ieHigh := rfl
@[simp] theorem State.setFlags_run (s : State) (z n h c : Bool) : (s.setFlags z n h c).run = s.run := rfl
@[simp] theorem State.setFlags_cost (s : State) (z n h c : Bool) : (s.setFlags z n h c).cost = s.cost := rfl

@[simp] theorem State.setPair_ints (s : State) (p : Pair) (v : Word) : (s.setPair p v).ints = s.ints := by cases p <;> rfl
@[simp] theorem State.setPair_timer (s : State) (p : Pair) (v : Word) : (s.setPair p v).timer = s.timer := by cases p <;> rfl
@[simp] theorem State.setPair_lcd (s : State) (p : Pair) (v : Word) : (s.setPair p v).lcd = s.lcd := by cases p <;> rfl
@[simp] theorem State.setPair_mem (s : State) (p : Pair) (v : Word) : (s.setPair p v).mem = s.mem := by cases p <;> rfl
@[simp] theorem State.setPair_dmaReg (s : State) (p : Pair) (v : Word) : (s.setPair p v).dmaReg = s.dmaReg := by cases p <;> rfl
@[simp] theorem State.setPair_joypSel (s : State) (p : Pair) (v : Word) : (s.setPair p v).joypSel = s.joypSel := by cases p <;> rfl
@[simp] theorem State.setPair_cart (s : State) (p : Pair) (v : Word) : (s.setPair p v).cart = s.cart := by cases p <;> rfl
@[simp] theorem State.setPair_input (s : State) (p : Pair) (v : Word) : (s.setPair p v).input = s.input := by cases p <;> rfl
@[simp] theorem State.setPair_inputQueue (s : State) (p : Pair) (v : Word) : (s.setPair p v).inputQueue = s.inputQueue := by cases p <;> rfl
@[simp] theorem State.setPair_ieHigh (s : State) (p : Pair) (v : Word) : (s.setPair p v).ieHigh = s.ieHigh := by cases p <;> rfl
@[simp] theorem State.setPair_run (s : State) (p : Pair) (v : Word) : (s.setPair p v).run = s.run := by cases p <;> rfl
@[simp] theorem State.setPair_cost (s : State) (p : Pair) (v : Word) : (s.setPair p v).cost = s.cost := by cases p <;> rfl

@[simp] theorem State.setPc_ints (s : State) (v : Word) : (s.setPc v).ints = s.ints := rfl
@[simp] theorem State.setPc_timer (s : State) (v : Word) : (s.setPc v).timer = s.timer := rfl
@[simp] theorem State.setPc_lcd (s : State) (v : Word) : (s.setPc v).lcd = s.lcd := rfl
@[simp] theorem State.setPc_mem (s : State) (v : Word) : (s.setPc v).mem = s.mem := rfl
@[simp] theorem State.setPc_dmaReg (s : State) (v : Word) : (s.setPc v).dmaReg = s.dmaReg := rfl
@[simp] theorem State.setPc_joypSel (s : State) (v : Word) : (s.setPc v).joypSel = s.joypSel := rfl
@[simp] theorem State.setPc_cart (s : State) (v : Word) : (s.setPc v).cart = s.cart := rfl
@[simp] theorem State.setPc_input (s : State) (v : Word) : (s.setPc v).input = s.input := rfl
@[simp] theorem State.setPc_inputQueue (s : State) (v : Word) : (s.setPc v).inputQueue = s.inputQueue := rfl
@[simp] theorem State.setPc_ieHigh (s : State) (v : Word) : (s.setPc v).ieHigh = s.ieHigh := rfl
@[simp] theorem State.setPc_run (s : State) (v : Word) : (s.setPc v).run = s.run := rfl
@[simp] theorem State.setPc_cost (s : State) (v : Word) : (s.setPc v).cost = s.cost := rfl

@[simp] theorem State.setSp_ints (s : State) (v : Word) : (s.setSp v).ints = s.ints := rfl
@[simp] theorem State.setSp_timer (s : State) (v : Word) : (s.setSp v).timer = s.timer := rfl
@[simp] theorem State.setSp_lcd (s : State) (v : Word) : (s.setSp v).lcd = s.lcd := rfl
@[simp] theorem State.setSp_mem (s : State) (v : Word) : (s.setSp v).mem = s.mem := rfl
@[simp] theorem State.setSp_dmaReg (s : State) (v : Word) : (s.setSp v).dmaReg = s.dmaReg := rfl
@[simp] theorem State.setSp_joypSel (s : State) (v : Word) : (s.setSp v).joypSel = s.joypSel := rfl
@[simp] theorem State.setSp_cart (s : State) (v : Word) : (s.setSp v).cart = s.cart := rfl
@[simp] theorem State.setSp_input (s : State) (v : Word) : (s.setSp v).input = s.input := rfl
@[simp] theorem State.setSp_inputQueue (s : State) (v : Word) : (s.setSp v).inputQueue = s.inputQueue := rfl
@[simp] theorem State.setSp_ieHigh (s : State) (v : Word) : (s.setSp v).ieHigh = s.ieHigh := rfl
@[simp] theorem State.setSp_run (s : State) (v : Word) : (s.setSp v).run = s.run := rfl
@[simp] theorem State.setSp_cost (s : State) (v : Word) : (s.setSp v).cost = s.cost := rfl

@[simp] theorem State.alu_ints (s : State) (op : AluOp) (b : Byte) : (s.alu op b).ints = s.ints := by cases op <;> rfl
@[simp] theorem State.alu_timer (s : State) (op : AluOp) (b : Byte) : (s.alu op b).timer = s.timer := by cases op <;> rfl
@[simp] theorem State.alu_lcd (s : State) (op : AluOp) (b : Byte) : (s.alu op b).lcd = s.lcd := by cases op <;> rfl
@[simp] theorem State.alu_mem (s : State) (op : AluOp) (b : Byte) : (s.alu op b).mem = s.mem := by cases op <;> rfl
@[simp] theorem State.alu_dmaReg (s : State) (op : AluOp) (b : Byte) : (s.alu op b).dmaReg = s.dmaReg := by cases op <;> rfl
@[simp] theorem State.alu_joypSel (s : State) (op : AluOp) (b : Byte) : (s.alu op b).joypSel = s.joypSel := by cases op <;> rfl
@[simp] theorem State.alu_cart (s : State) (op : AluOp) (b : Byte) : (s.alu op b).cart = s.cart := by cases op <;> rfl
@[simp] theorem State.alu_input (s : State) (op : AluOp) (b : Byte) : (s.alu op b).input = s.input := by cases op <;> rfl
@[simp] theorem State.alu_inputQueue (s : State) (op : AluOp) (b : Byte) : (s.alu op b).inputQueue = s.inputQueue := by cases op <;> rfl
@[simp] theorem State.alu_ieHigh (s : State) (op : AluOp) (b : Byte) : (s.alu op b).ieHigh = s.ieHigh := by cases op <;> rfl
@[simp] theorem State.alu_run (s : State) (op : AluOp) (b : Byte) : (s.alu op b).run = s.run := by cases op <;> rfl
@[simp] theorem State.alu_cost (s : State) (op : AluOp) (b : Byte) : (s.alu op b).cost = s.cost := by cases op <;> rfl

@[simp] theorem State.incFlags_ints (s : State) (v : Byte) : (s.incFlags v).ints = s.ints := rfl
@[simp] theorem State.incFlags_timer (s : State) (v : Byte) : (s.incFlags v).timer = s.timer := rfl
@[simp] theorem State.incFlags_lcd (s : State) (v : Byte) : (s.incFlags v).lcd = s.lcd := rfl
@[simp] theorem State.incFlags_mem (s : State) (v : Byte) : (s.incFlags v).mem = s.mem := rfl
@[simp] theorem State.incFlags_dmaReg (s : State) (v : Byte) : (s.incFlags v).dmaReg = s.dmaReg := rfl
@[simp] theorem State.incFlags_joypSel (s : State) (v : Byte) : (s.incFlags v).joypSel = s.joypSel := rfl
@[simp] theorem State.incFlags_cart (s : State) (v : Byte) : (s.incFlags v).cart = s.cart := rfl
@[simp] theorem State.incFlags_input (s : State) (v : Byte) : (s.incFlags v).input = s.input := rfl
@[simp] theorem State.incFlags_inputQueue (s : State) (v : Byte) : (s.incFlags v).inputQueue = s.inputQueue := rfl
@[simp] theorem State.incFlags_ieHigh (s : State) (v : Byte) : (s.incFlags v).ieHigh = s.ieHigh := rfl
@[simp] theorem State.incFlags_run (s : State) (v : Byte) : (s.incFlags v).run = s.run := rfl
@[simp] theorem State.incFlags_cost (s : State) (v : Byte) : (s.incFlags v).cost = s.cost := rfl

@[simp] theorem State.decFlags_ints (s : State) (v : Byte) : (s.decFlags v).ints = s.ints := rfl
@[simp] theorem State.decFlags_timer (s : State) (v : Byte) : (s.decFlags v).timer = s.timer := rfl
@[simp] theorem State.decFlags_lcd (s : State) (v : Byte) : (s.decFlags v).lcd = s.lcd := rfl
@[simp] theorem State.decFlags_mem (s : State) (v : Byte) : (s.decFlags v).mem = s.mem := rfl
@[simp] theorem State.decFlags_dmaReg (s : State) (v : Byte) : (s.decFlags v).dmaReg = s.dmaReg := rfl
@[simp] theorem State.decFlags_joypSel (s : State) (v : Byte) : (s.decFlags v).joypSel = s.joypSel := rfl
@[simp] theorem State.decFlags_cart (s : State) (v : Byte) : (s.decFlags v).cart = s.cart := rfl
@[simp] theorem State.decFlags_input (s : State) (v : Byte) : (s.decFlags v).input = s.input := rfl
@[simp] theorem State.decFlags_inputQueue (s : State) (v : Byte) : (s.decFlags v).inputQueue = s.inputQueue := rfl
@[simp] theorem State.decFlags_ieHigh (s : State) (v : Byte) : (s.decFlags v).ieHigh = s.ieHigh := rfl
@[simp] theorem State.decFlags_run (s : State) (v : Byte) : (s.decFlags v).run = s.run := rfl
@[simp] theorem State.decFlags_cost (s : State) (v : Byte) : (s.decFlags v).cost = s.cost := rfl

@[simp] theorem State.shiftFlags_ints (s : State) (op : ShiftOp) (v : Byte) (cin : Bool) : (s.shiftFlags op v cin).ints = s.ints := rfl
@[simp] theorem State.shiftFlags_timer (s : State) (op : ShiftOp) (v : Byte) (cin : Bool) : (s.shiftFlags op v cin).timer = s.timer := rfl
@[simp] theorem State.shiftFlags_lcd (s : State) (op : ShiftOp) (v : Byte) (cin : Bool) : (s.shiftFlags op v cin).lcd = s.lcd := rfl
@[simp] theorem State.shiftFlags_mem (s : State) (op : ShiftOp) (v : Byte) (cin : Bool) : (s.shiftFlags op v cin).mem = s.mem := rfl
@[simp] theorem State.shiftFlags_dmaReg (s : State) (op : ShiftOp) (v : Byte) (cin : Bool) : (s.shiftFlags op v cin).dmaReg = s.dmaReg := rfl
@[simp] theorem State.shiftFlags_joypSel (s : State) (op : ShiftOp) (v : Byte) (cin : Bool) : (s.shiftFlags op v cin).joypSel = s.joypSel := rfl
@[simp] theorem State.shiftFlags_cart (s : State) (op : ShiftOp) (v : Byte) (cin : Bool) : (s.shiftFlags op v cin).cart = s.cart := rfl
@[simp] theorem State.shiftFlags_input (s : State) (op : ShiftOp) (v : Byte) (cin : Bool) : (s.shiftFlags op v cin).input = s.input := rfl
@[simp] theorem State.shiftFlags_inputQueue (s : State) (op : ShiftOp) (v : Byte) (cin : Bool) : (s.shiftFlags op v cin).inputQueue = s.inputQueue := rfl
@[simp] theorem State.shiftFlags_ieHigh (s : State) (op : ShiftOp) (v : Byte) (cin : Bool) : (s.shiftFlags op v cin).ieHigh = s.ieHigh := rfl
@[simp] theorem State.shiftFlags_run (s : State) (op : ShiftOp) (v : Byte) (cin : Bool) : (s.shiftFlags op v cin).run = s.run := rfl
@[simp] theorem State.shiftFlags_cost (s : State) (op : ShiftOp) (v : Byte) (cin : Bool) : (s.shiftFlags op v cin).cost = s.cost := rfl

@[simp] theorem State.bitFlags_ints (s : State) (b : Fin 8) (v : Byte) : (s.bitFlags b v).ints = s.ints := rfl
@[simp] theorem State.bitFlags_timer (s : State) (b : Fin 8) (v : Byte) : (s.bitFlags b v).timer = s.timer := rfl
@[simp] theorem State.bitFlags_lcd (s : State) (b : Fin 8) (v : Byte) : (s.bitFlags b v).lcd = s.lcd := rfl
@[simp] theorem State.bitFlags_mem (s : State) (b : Fin 8) (v : Byte) : (s.bitFlags b v).mem = s.mem := rfl
@[simp] theorem State.bitFlags_dmaReg (s : State) (b : Fin 8) (v : Byte) : (s.bitFlags b v).dmaReg = s.dmaReg := rfl
@[simp] theorem State.bitFlags_joypSel (s : State) (b : Fin 8) (v : Byte) : (s.bitFlags b v).joypSel = s.joypSel := rfl
@[simp] theorem State.bitFlags_cart (s : State) (b : Fin 8) (v : Byte) : (s.bitFlags b v).cart = s.cart := rfl
@[simp] theorem State.bitFlags_input (s : State) (b : Fin 8) (v : Byte) : (s.bitFlags b v).input = s.input := rfl
@[simp] theorem State.bitFlags_inputQueue (s : State) (b : Fin 8) (v : Byte) : (s.bitFlags b v).inputQueue = s.inputQueue := rfl
@[simp] theorem State.bitFlags_ieHigh (s : State) (b : Fin 8) (v : Byte) : (s.bitFlags b v).ieHigh = s.ieHigh := rfl
@[simp] theorem State.bitFlags_run (s : State) (b : Fin 8) (v : Byte) : (s.bitFlags b v).run = s.run := rfl
@[simp] theorem State.bitFlags_cost (s : State) (b : Fin 8) (v : Byte) : (s.bitFlags b v).cost = s.cost := rfl

/-- Such an update is a change of the registers alone. -/
theorem State.setReg_eq (s : State) (r : Reg8) (v : Byte) : s.setReg r v = { s with regs := (s.setReg r v).regs } := by
  cases r <;> rfl

theorem State.setPair_eq (s : State) (p : Pair) (v : Word) : s.setPair p v = { s with regs := (s.setPair p v).regs } := by
  cases p <;> rfl

theorem State.alu_eq (s : State) (op : AluOp) (b : Byte) : s.alu op b = { s with regs := (s.alu op b).regs } := by
  cases op <;> rfl

/-! ## Within the registers -/

@[simp] theorem State.setReg_regs_f (s : State) (r : Reg8) (v : Byte) : (s.setReg r v).regs.f = s.regs.f := by cases r <;> rfl
@[simp] theorem State.setReg_regs_sp (s : State) (r : Reg8) (v : Byte) : (s.setReg r v).regs.sp = s.regs.sp := by cases r <;> rfl
@[simp] theorem State.setReg_regs_pc (s : State) (r : Reg8) (v : Byte) : (s.setReg r v).regs.pc = s.regs.pc := by cases r <;> rfl
@[simp] theorem State.setF_regs_a (s : State) (v : Byte) : (s.setF v).regs.a = s.regs.a := rfl
@[simp] theorem State.setF_regs_b (s : State) (v : Byte) : (s.setF v).regs.b = s.regs.b := rfl
@[simp] theorem State.setF_regs_c (s : State) (v : Byte) : (s.setF v).regs.c = s.regs.c := rfl
@[simp] theorem State.setF_regs_d (s : State) (v : Byte) : (s.setF v).regs.d = s.regs.d := rfl
@[simp] theorem State.setF_regs_e (s : State) (v : Byte) : (s.setF v).regs.e = s.regs.e := rfl
@[simp] theorem State.setF_regs_h (s : State) (v : Byte) : (s.setF v).regs.h = s.regs.h := rfl
@[simp] theorem State.setF_regs_l (s : State) (v : Byte) : (s.setF v).regs.l = s.regs.l := rfl
@[simp] theorem State.setF_regs_sp (s : State) (v : Byte) : (s.setF v).regs.sp = s.regs.sp := rfl
@[simp] theorem State.setF_regs_pc (s : State) (v : Byte) : (s.setF v).regs.pc = s.regs.pc := rfl
@[simp] theorem State.setFlags_regs_a (s : State) (z n h c : Bool) : (s.setFlags z n h c).regs.a = s.regs.a := rfl
@[simp] theorem State.setFlags_regs_b (s : State) (z n h c : Bool) : (s.setFlags z n h c).regs.b = s.regs.b := rfl
@[simp] theorem State.setFlags_regs_c (s : State) (z n h c : Bool) : (s.setFlags z n h c).regs.c = s.regs.c := rfl
@[simp] theorem State.setFlags_regs_d (s : State) (z n h c : Bool) : (s.setFlags z n h c).regs.d = s.regs.d := rfl
@[simp] theorem State.setFlags_regs_e (s : State) (z n h c : Bool) : (s.setFlags z n h c).regs.e = s.regs.e := rfl
@[simp] theorem State.setFlags_regs_h (s : State) (z n h c : Bool) : (s.setFlags z n h c).regs.h = s.regs.h := rfl
@[simp] theorem State.setFlags_regs_l (s : State) (z n h c : Bool) : (s.setFlags z n h c).regs.l = s.regs.l := rfl
@[simp] theorem State.setFlags_regs_sp (s : State) (z n h c : Bool) : (s.setFlags z n h c).regs.sp = s.regs.sp := rfl
@[simp] theorem State.setFlags_regs_pc (s : State) (z n h c : Bool) : (s.setFlags z n h c).regs.pc = s.regs.pc := rfl
@[simp] theorem State.setPc_regs_a (s : State) (v : Word) : (s.setPc v).regs.a = s.regs.a := rfl
@[simp] theorem State.setPc_regs_f (s : State) (v : Word) : (s.setPc v).regs.f = s.regs.f := rfl
@[simp] theorem State.setPc_regs_b (s : State) (v : Word) : (s.setPc v).regs.b = s.regs.b := rfl
@[simp] theorem State.setPc_regs_c (s : State) (v : Word) : (s.setPc v).regs.c = s.regs.c := rfl
@[simp] theorem State.setPc_regs_d (s : State) (v : Word) : (s.setPc v).regs.d = s.regs.d := rfl
@[simp] theorem State.setPc_regs_e (s : State) (v : Word) : (s.setPc v).regs.e = s.regs.e := rfl
@[simp] theorem State.setPc_regs_h (s : State) (v : Word) : (s.setPc v).regs.h = s.regs.h := rfl
@[simp] theorem State.setPc_regs_l (s : State) (v : Word) : (s.setPc v).regs.l = s.regs.l := rfl
@[simp] theorem State.setPc_regs_sp (s : State) (v : Word) : (s.setPc v).regs.sp = s.regs.sp := rfl
@[simp] theorem State.setSp_regs_a (s : State) (v : Word) : (s.setSp v).regs.a = s.regs.a := rfl
@[simp] theorem State.setSp_regs_f (s : State) (v : Word) : (s.setSp v).regs.f = s.regs.f := rfl
@[simp] theorem State.setSp_regs_b (s : State) (v : Word) : (s.setSp v).regs.b = s.regs.b := rfl
@[simp] theorem State.setSp_regs_c (s : State) (v : Word) : (s.setSp v).regs.c = s.regs.c := rfl
@[simp] theorem State.setSp_regs_d (s : State) (v : Word) : (s.setSp v).regs.d = s.regs.d := rfl
@[simp] theorem State.setSp_regs_e (s : State) (v : Word) : (s.setSp v).regs.e = s.regs.e := rfl
@[simp] theorem State.setSp_regs_h (s : State) (v : Word) : (s.setSp v).regs.h = s.regs.h := rfl
@[simp] theorem State.setSp_regs_l (s : State) (v : Word) : (s.setSp v).regs.l = s.regs.l := rfl
@[simp] theorem State.setSp_regs_pc (s : State) (v : Word) : (s.setSp v).regs.pc = s.regs.pc := rfl
@[simp] theorem State.setPc_regs_pc (s : State) (v : Word) : (s.setPc v).regs.pc = v := rfl
@[simp] theorem State.setSp_regs_sp (s : State) (v : Word) : (s.setSp v).regs.sp = v := rfl
@[simp] theorem State.setPair_regs_pc (s : State) (p : Pair) (v : Word) : (s.setPair p v).regs.pc = s.regs.pc := by cases p <;> rfl
@[simp] theorem State.alu_regs_sp (s : State) (op : AluOp) (b : Byte) : (s.alu op b).regs.sp = s.regs.sp := by cases op <;> rfl
@[simp] theorem State.alu_regs_pc (s : State) (op : AluOp) (b : Byte) : (s.alu op b).regs.pc = s.regs.pc := by cases op <;> rfl
@[simp] theorem State.incFlags_regs_a (s : State) (v : Byte) : (s.incFlags v).regs.a = s.regs.a := rfl
@[simp] theorem State.incFlags_regs_b (s : State) (v : Byte) : (s.incFlags v).regs.b = s.regs.b := rfl
@[simp] theorem State.incFlags_regs_c (s : State) (v : Byte) : (s.incFlags v).regs.c = s.regs.c := rfl
@[simp] theorem State.incFlags_regs_d (s : State) (v : Byte) : (s.incFlags v).regs.d = s.regs.d := rfl
@[simp] theorem State.incFlags_regs_e (s : State) (v : Byte) : (s.incFlags v).regs.e = s.regs.e := rfl
@[simp] theorem State.incFlags_regs_h (s : State) (v : Byte) : (s.incFlags v).regs.h = s.regs.h := rfl
@[simp] theorem State.incFlags_regs_l (s : State) (v : Byte) : (s.incFlags v).regs.l = s.regs.l := rfl
@[simp] theorem State.incFlags_regs_sp (s : State) (v : Byte) : (s.incFlags v).regs.sp = s.regs.sp := rfl
@[simp] theorem State.incFlags_regs_pc (s : State) (v : Byte) : (s.incFlags v).regs.pc = s.regs.pc := rfl
@[simp] theorem State.reg_incFlags (s : State) (v : Byte) (r : Reg8) : (s.incFlags v).reg r = s.reg r := by cases r <;> rfl
@[simp] theorem State.decFlags_regs_a (s : State) (v : Byte) : (s.decFlags v).regs.a = s.regs.a := rfl
@[simp] theorem State.decFlags_regs_b (s : State) (v : Byte) : (s.decFlags v).regs.b = s.regs.b := rfl
@[simp] theorem State.decFlags_regs_c (s : State) (v : Byte) : (s.decFlags v).regs.c = s.regs.c := rfl
@[simp] theorem State.decFlags_regs_d (s : State) (v : Byte) : (s.decFlags v).regs.d = s.regs.d := rfl
@[simp] theorem State.decFlags_regs_e (s : State) (v : Byte) : (s.decFlags v).regs.e = s.regs.e := rfl
@[simp] theorem State.decFlags_regs_h (s : State) (v : Byte) : (s.decFlags v).regs.h = s.regs.h := rfl
@[simp] theorem State.decFlags_regs_l (s : State) (v : Byte) : (s.decFlags v).regs.l = s.regs.l := rfl
@[simp] theorem State.decFlags_regs_sp (s : State) (v : Byte) : (s.decFlags v).regs.sp = s.regs.sp := rfl
@[simp] theorem State.decFlags_regs_pc (s : State) (v : Byte) : (s.decFlags v).regs.pc = s.regs.pc := rfl
@[simp] theorem State.reg_decFlags (s : State) (v : Byte) (r : Reg8) : (s.decFlags v).reg r = s.reg r := by cases r <;> rfl
@[simp] theorem State.shiftFlags_regs_a (s : State) (op : ShiftOp) (v : Byte) (cin : Bool) : (s.shiftFlags op v cin).regs.a = s.regs.a := rfl
@[simp] theorem State.shiftFlags_regs_b (s : State) (op : ShiftOp) (v : Byte) (cin : Bool) : (s.shiftFlags op v cin).regs.b = s.regs.b := rfl
@[simp] theorem State.shiftFlags_regs_c (s : State) (op : ShiftOp) (v : Byte) (cin : Bool) : (s.shiftFlags op v cin).regs.c = s.regs.c := rfl
@[simp] theorem State.shiftFlags_regs_d (s : State) (op : ShiftOp) (v : Byte) (cin : Bool) : (s.shiftFlags op v cin).regs.d = s.regs.d := rfl
@[simp] theorem State.shiftFlags_regs_e (s : State) (op : ShiftOp) (v : Byte) (cin : Bool) : (s.shiftFlags op v cin).regs.e = s.regs.e := rfl
@[simp] theorem State.shiftFlags_regs_h (s : State) (op : ShiftOp) (v : Byte) (cin : Bool) : (s.shiftFlags op v cin).regs.h = s.regs.h := rfl
@[simp] theorem State.shiftFlags_regs_l (s : State) (op : ShiftOp) (v : Byte) (cin : Bool) : (s.shiftFlags op v cin).regs.l = s.regs.l := rfl
@[simp] theorem State.shiftFlags_regs_sp (s : State) (op : ShiftOp) (v : Byte) (cin : Bool) : (s.shiftFlags op v cin).regs.sp = s.regs.sp := rfl
@[simp] theorem State.shiftFlags_regs_pc (s : State) (op : ShiftOp) (v : Byte) (cin : Bool) : (s.shiftFlags op v cin).regs.pc = s.regs.pc := rfl
@[simp] theorem State.reg_shiftFlags (s : State) (op : ShiftOp) (v : Byte) (cin : Bool) (r : Reg8) : (s.shiftFlags op v cin).reg r = s.reg r := by cases r <;> rfl
@[simp] theorem State.bitFlags_regs_a (s : State) (b : Fin 8) (v : Byte) : (s.bitFlags b v).regs.a = s.regs.a := rfl
@[simp] theorem State.bitFlags_regs_b (s : State) (b : Fin 8) (v : Byte) : (s.bitFlags b v).regs.b = s.regs.b := rfl
@[simp] theorem State.bitFlags_regs_c (s : State) (b : Fin 8) (v : Byte) : (s.bitFlags b v).regs.c = s.regs.c := rfl
@[simp] theorem State.bitFlags_regs_d (s : State) (b : Fin 8) (v : Byte) : (s.bitFlags b v).regs.d = s.regs.d := rfl
@[simp] theorem State.bitFlags_regs_e (s : State) (b : Fin 8) (v : Byte) : (s.bitFlags b v).regs.e = s.regs.e := rfl
@[simp] theorem State.bitFlags_regs_h (s : State) (b : Fin 8) (v : Byte) : (s.bitFlags b v).regs.h = s.regs.h := rfl
@[simp] theorem State.bitFlags_regs_l (s : State) (b : Fin 8) (v : Byte) : (s.bitFlags b v).regs.l = s.regs.l := rfl
@[simp] theorem State.bitFlags_regs_sp (s : State) (b : Fin 8) (v : Byte) : (s.bitFlags b v).regs.sp = s.regs.sp := rfl
@[simp] theorem State.bitFlags_regs_pc (s : State) (b : Fin 8) (v : Byte) : (s.bitFlags b v).regs.pc = s.regs.pc := rfl
@[simp] theorem State.reg_bitFlags (s : State) (b : Fin 8) (v : Byte) (r : Reg8) : (s.bitFlags b v).reg r = s.reg r := by cases r <;> rfl

/-- R134: a register reads what was last written to it, and a write reaches no other register. -/
@[simp] theorem State.reg_setReg (s : State) (r r' : Reg8) (v : Byte) :
    (s.setReg r v).reg r' = if r' = r then v else s.reg r' := by
  cases r <;> cases r' <;> rfl

@[simp] theorem State.reg_setF (s : State) (v : Byte) (r : Reg8) : (s.setF v).reg r = s.reg r := by cases r <;> rfl
@[simp] theorem State.reg_setFlags (s : State) (z n h c : Bool) (r : Reg8) : (s.setFlags z n h c).reg r = s.reg r := by
  cases r <;> rfl
@[simp] theorem State.reg_setPc (s : State) (v : Word) (r : Reg8) : (s.setPc v).reg r = s.reg r := by cases r <;> rfl
@[simp] theorem State.reg_setSp (s : State) (v : Word) (r : Reg8) : (s.setSp v).reg r = s.reg r := by cases r <;> rfl

/-! ## Flags (R10, R32) -/

theorem packFlags_masked (z n h c : Bool) : packFlags z n h c &&& 0xF0 = packFlags z n h c := by
  cases z <;> cases n <;> cases h <;> cases c <;> rfl

theorem packFlags_bit7 : ∀ z n h c : Bool, (packFlags z n h c &&& 0xF0).getLsbD 7 = z := by decide
theorem packFlags_bit6 : ∀ z n h c : Bool, (packFlags z n h c &&& 0xF0).getLsbD 6 = n := by decide
theorem packFlags_bit5 : ∀ z n h c : Bool, (packFlags z n h c &&& 0xF0).getLsbD 5 = h := by decide
theorem packFlags_bit4 : ∀ z n h c : Bool, (packFlags z n h c &&& 0xF0).getLsbD 4 = c := by decide

/-- R10: what F holds after a write of the four flags. -/
@[simp] theorem State.setFlags_regs_f (s : State) (z n h c : Bool) : (s.setFlags z n h c).regs.f = packFlags z n h c :=
  packFlags_masked z n h c

@[simp] theorem State.setFlags_flagZ (s : State) (z n h c : Bool) : (s.setFlags z n h c).flagZ = z :=
  packFlags_bit7 z n h c
@[simp] theorem State.setFlags_flagN (s : State) (z n h c : Bool) : (s.setFlags z n h c).flagN = n :=
  packFlags_bit6 z n h c
@[simp] theorem State.setFlags_flagH (s : State) (z n h c : Bool) : (s.setFlags z n h c).flagH = h :=
  packFlags_bit5 z n h c
@[simp] theorem State.setFlags_flagC (s : State) (z n h c : Bool) : (s.setFlags z n h c).flagC = c :=
  packFlags_bit4 z n h c

/-- R32: F[3:0] always reads 0 after a write of F. -/
theorem State.setF_low (s : State) (v : Byte) : (s.setF v).regs.f &&& 0x0F = 0 := by
  show (v &&& 0xF0) &&& 0x0F = 0
  rw [BitVec.and_assoc]; exact BitVec.and_zero

theorem State.setFlags_low (s : State) (z n h c : Bool) : (s.setFlags z n h c).regs.f &&& 0x0F = 0 := s.setF_low _

/-- R10: a write of the four flags leaves F as its four flags and a zero low nibble. -/
theorem State.setFlags_flagsAre (s : State) (z n h c : Bool) :
    (s.setFlags z n h c).flagZ = z ∧ (s.setFlags z n h c).flagN = n ∧ (s.setFlags z n h c).flagH = h ∧
      (s.setFlags z n h c).flagC = c ∧ (s.setFlags z n h c).regs.f &&& 0x0F = 0 :=
  ⟨by simp, by simp, by simp, by simp, s.setFlags_low ..⟩

/-! ## Pairs (R31, R275) -/

/-- R31: a pair other than AF reads the value last written to it. -/
theorem State.pair_setPair (s : State) (p : Pair) (v : Word) (h : p ≠ .AF) : (s.setPair p v).pair p = v := by
  cases p
  · exact joinBytes_highByte_lowByte v
  · exact joinBytes_highByte_lowByte v
  · exact joinBytes_highByte_lowByte v
  · rfl
  · exact absurd rfl h

/-- R31, R32: AF reads the value written with its low nibble cleared. -/
theorem State.pair_setPair_AF (s : State) (v : Word) : (s.setPair .AF v).pair .AF = v &&& 0xFFF0 :=
  joinBytes_masked v

/-! ## The interrupt controller and the fatal state -/

@[simp] theorem State.setIme_regs (s : State) (b : Bool) : (s.setIme b).regs = s.regs := rfl
@[simp] theorem State.request_regs (s : State) (i : Fin 5) : (s.request i).regs = s.regs := rfl
@[simp] theorem State.acknowledge_regs (s : State) (i : Fin 5) : (s.acknowledge i).regs = s.regs := rfl
@[simp] theorem State.tickDelays_regs (s : State) : s.tickDelays.regs = s.regs := rfl
@[simp] theorem State.setIme_timer (s : State) (b : Bool) : (s.setIme b).timer = s.timer := rfl
@[simp] theorem State.request_timer (s : State) (i : Fin 5) : (s.request i).timer = s.timer := rfl
@[simp] theorem State.acknowledge_timer (s : State) (i : Fin 5) : (s.acknowledge i).timer = s.timer := rfl
@[simp] theorem State.tickDelays_timer (s : State) : s.tickDelays.timer = s.timer := rfl
@[simp] theorem State.setIme_lcd (s : State) (b : Bool) : (s.setIme b).lcd = s.lcd := rfl
@[simp] theorem State.request_lcd (s : State) (i : Fin 5) : (s.request i).lcd = s.lcd := rfl
@[simp] theorem State.acknowledge_lcd (s : State) (i : Fin 5) : (s.acknowledge i).lcd = s.lcd := rfl
@[simp] theorem State.tickDelays_lcd (s : State) : s.tickDelays.lcd = s.lcd := rfl
@[simp] theorem State.setIme_mem (s : State) (b : Bool) : (s.setIme b).mem = s.mem := rfl
@[simp] theorem State.request_mem (s : State) (i : Fin 5) : (s.request i).mem = s.mem := rfl
@[simp] theorem State.acknowledge_mem (s : State) (i : Fin 5) : (s.acknowledge i).mem = s.mem := rfl
@[simp] theorem State.tickDelays_mem (s : State) : s.tickDelays.mem = s.mem := rfl
@[simp] theorem State.setIme_dmaReg (s : State) (b : Bool) : (s.setIme b).dmaReg = s.dmaReg := rfl
@[simp] theorem State.request_dmaReg (s : State) (i : Fin 5) : (s.request i).dmaReg = s.dmaReg := rfl
@[simp] theorem State.acknowledge_dmaReg (s : State) (i : Fin 5) : (s.acknowledge i).dmaReg = s.dmaReg := rfl
@[simp] theorem State.tickDelays_dmaReg (s : State) : s.tickDelays.dmaReg = s.dmaReg := rfl
@[simp] theorem State.setIme_joypSel (s : State) (b : Bool) : (s.setIme b).joypSel = s.joypSel := rfl
@[simp] theorem State.request_joypSel (s : State) (i : Fin 5) : (s.request i).joypSel = s.joypSel := rfl
@[simp] theorem State.acknowledge_joypSel (s : State) (i : Fin 5) : (s.acknowledge i).joypSel = s.joypSel := rfl
@[simp] theorem State.tickDelays_joypSel (s : State) : s.tickDelays.joypSel = s.joypSel := rfl
@[simp] theorem State.setIme_cart (s : State) (b : Bool) : (s.setIme b).cart = s.cart := rfl
@[simp] theorem State.request_cart (s : State) (i : Fin 5) : (s.request i).cart = s.cart := rfl
@[simp] theorem State.acknowledge_cart (s : State) (i : Fin 5) : (s.acknowledge i).cart = s.cart := rfl
@[simp] theorem State.tickDelays_cart (s : State) : s.tickDelays.cart = s.cart := rfl
@[simp] theorem State.setIme_input (s : State) (b : Bool) : (s.setIme b).input = s.input := rfl
@[simp] theorem State.request_input (s : State) (i : Fin 5) : (s.request i).input = s.input := rfl
@[simp] theorem State.acknowledge_input (s : State) (i : Fin 5) : (s.acknowledge i).input = s.input := rfl
@[simp] theorem State.tickDelays_input (s : State) : s.tickDelays.input = s.input := rfl
@[simp] theorem State.setIme_inputQueue (s : State) (b : Bool) : (s.setIme b).inputQueue = s.inputQueue := rfl
@[simp] theorem State.request_inputQueue (s : State) (i : Fin 5) : (s.request i).inputQueue = s.inputQueue := rfl
@[simp] theorem State.acknowledge_inputQueue (s : State) (i : Fin 5) : (s.acknowledge i).inputQueue = s.inputQueue := rfl
@[simp] theorem State.tickDelays_inputQueue (s : State) : s.tickDelays.inputQueue = s.inputQueue := rfl
@[simp] theorem State.setIme_ieHigh (s : State) (b : Bool) : (s.setIme b).ieHigh = s.ieHigh := rfl
@[simp] theorem State.request_ieHigh (s : State) (i : Fin 5) : (s.request i).ieHigh = s.ieHigh := rfl
@[simp] theorem State.acknowledge_ieHigh (s : State) (i : Fin 5) : (s.acknowledge i).ieHigh = s.ieHigh := rfl
@[simp] theorem State.tickDelays_ieHigh (s : State) : s.tickDelays.ieHigh = s.ieHigh := rfl
@[simp] theorem State.setIme_run (s : State) (b : Bool) : (s.setIme b).run = s.run := rfl
@[simp] theorem State.request_run (s : State) (i : Fin 5) : (s.request i).run = s.run := rfl
@[simp] theorem State.acknowledge_run (s : State) (i : Fin 5) : (s.acknowledge i).run = s.run := rfl
@[simp] theorem State.tickDelays_run (s : State) : s.tickDelays.run = s.run := rfl
@[simp] theorem State.setIme_cost (s : State) (b : Bool) : (s.setIme b).cost = s.cost := rfl
@[simp] theorem State.request_cost (s : State) (i : Fin 5) : (s.request i).cost = s.cost := rfl
@[simp] theorem State.acknowledge_cost (s : State) (i : Fin 5) : (s.acknowledge i).cost = s.cost := rfl
@[simp] theorem State.tickDelays_cost (s : State) : s.tickDelays.cost = s.cost := rfl
@[simp] theorem State.setIme_ints (s : State) (b : Bool) : (s.setIme b).ints = { s.ints with ime := b } := rfl
@[simp] theorem State.raise_regs (s : State) (k : Fatal) : (s.raise k).regs = s.regs := rfl
@[simp] theorem State.raise_ints (s : State) (k : Fatal) : (s.raise k).ints = s.ints := rfl
@[simp] theorem State.raise_timer (s : State) (k : Fatal) : (s.raise k).timer = s.timer := rfl
@[simp] theorem State.raise_lcd (s : State) (k : Fatal) : (s.raise k).lcd = s.lcd := rfl
@[simp] theorem State.raise_mem (s : State) (k : Fatal) : (s.raise k).mem = s.mem := rfl
@[simp] theorem State.raise_dmaReg (s : State) (k : Fatal) : (s.raise k).dmaReg = s.dmaReg := rfl
@[simp] theorem State.raise_joypSel (s : State) (k : Fatal) : (s.raise k).joypSel = s.joypSel := rfl
@[simp] theorem State.raise_cart (s : State) (k : Fatal) : (s.raise k).cart = s.cart := rfl
@[simp] theorem State.raise_input (s : State) (k : Fatal) : (s.raise k).input = s.input := rfl
@[simp] theorem State.raise_inputQueue (s : State) (k : Fatal) : (s.raise k).inputQueue = s.inputQueue := rfl
@[simp] theorem State.raise_ieHigh (s : State) (k : Fatal) : (s.raise k).ieHigh = s.ieHigh := rfl
@[simp] theorem State.raise_run (s : State) (k : Fatal) : (s.raise k).run = .fatal k := rfl
@[simp] theorem State.raise_cost (s : State) (k : Fatal) : (s.raise k).cost = 0 := rfl

/-! ## The devices -/

@[simp] theorem State.setMode_regs (s : State) (m : Mode) : (s.setMode m).regs = s.regs := rfl
@[simp] theorem State.setLy_regs (s : State) (v : Byte) : (s.setLy v).regs = s.regs := rfl
@[simp] theorem State.render_regs (s : State) (ly : Nat) : (s.render ly).regs = s.regs := rfl
@[simp] theorem State.setMode_timer (s : State) (m : Mode) : (s.setMode m).timer = s.timer := rfl
@[simp] theorem State.setLy_timer (s : State) (v : Byte) : (s.setLy v).timer = s.timer := rfl
@[simp] theorem State.render_timer (s : State) (ly : Nat) : (s.render ly).timer = s.timer := rfl
@[simp] theorem State.setMode_mem (s : State) (m : Mode) : (s.setMode m).mem = s.mem := rfl
@[simp] theorem State.setLy_mem (s : State) (v : Byte) : (s.setLy v).mem = s.mem := rfl
@[simp] theorem State.render_mem (s : State) (ly : Nat) : (s.render ly).mem = s.mem := rfl
@[simp] theorem State.setMode_dmaReg (s : State) (m : Mode) : (s.setMode m).dmaReg = s.dmaReg := rfl
@[simp] theorem State.setLy_dmaReg (s : State) (v : Byte) : (s.setLy v).dmaReg = s.dmaReg := rfl
@[simp] theorem State.render_dmaReg (s : State) (ly : Nat) : (s.render ly).dmaReg = s.dmaReg := rfl
@[simp] theorem State.setMode_joypSel (s : State) (m : Mode) : (s.setMode m).joypSel = s.joypSel := rfl
@[simp] theorem State.setLy_joypSel (s : State) (v : Byte) : (s.setLy v).joypSel = s.joypSel := rfl
@[simp] theorem State.render_joypSel (s : State) (ly : Nat) : (s.render ly).joypSel = s.joypSel := rfl
@[simp] theorem State.setMode_cart (s : State) (m : Mode) : (s.setMode m).cart = s.cart := rfl
@[simp] theorem State.setLy_cart (s : State) (v : Byte) : (s.setLy v).cart = s.cart := rfl
@[simp] theorem State.render_cart (s : State) (ly : Nat) : (s.render ly).cart = s.cart := rfl
@[simp] theorem State.setMode_input (s : State) (m : Mode) : (s.setMode m).input = s.input := rfl
@[simp] theorem State.setLy_input (s : State) (v : Byte) : (s.setLy v).input = s.input := rfl
@[simp] theorem State.render_input (s : State) (ly : Nat) : (s.render ly).input = s.input := rfl
@[simp] theorem State.setMode_inputQueue (s : State) (m : Mode) : (s.setMode m).inputQueue = s.inputQueue := rfl
@[simp] theorem State.setLy_inputQueue (s : State) (v : Byte) : (s.setLy v).inputQueue = s.inputQueue := rfl
@[simp] theorem State.render_inputQueue (s : State) (ly : Nat) : (s.render ly).inputQueue = s.inputQueue := rfl
@[simp] theorem State.setMode_ieHigh (s : State) (m : Mode) : (s.setMode m).ieHigh = s.ieHigh := rfl
@[simp] theorem State.setLy_ieHigh (s : State) (v : Byte) : (s.setLy v).ieHigh = s.ieHigh := rfl
@[simp] theorem State.render_ieHigh (s : State) (ly : Nat) : (s.render ly).ieHigh = s.ieHigh := rfl
@[simp] theorem State.setMode_run (s : State) (m : Mode) : (s.setMode m).run = s.run := rfl
@[simp] theorem State.setLy_run (s : State) (v : Byte) : (s.setLy v).run = s.run := rfl
@[simp] theorem State.render_run (s : State) (ly : Nat) : (s.render ly).run = s.run := rfl
@[simp] theorem State.setMode_cost (s : State) (m : Mode) : (s.setMode m).cost = s.cost := rfl
@[simp] theorem State.setLy_cost (s : State) (v : Byte) : (s.setLy v).cost = s.cost := rfl
@[simp] theorem State.render_cost (s : State) (ly : Nat) : (s.render ly).cost = s.cost := rfl
@[simp] theorem State.setMode_ints (s : State) (m : Mode) : (s.setMode m).ints = s.ints := rfl
@[simp] theorem State.setLy_ints (s : State) (v : Byte) : (s.setLy v).ints = s.ints := rfl
@[simp] theorem State.render_ints (s : State) (ly : Nat) : (s.render ly).ints = s.ints := rfl
@[simp] theorem State.setMode_lcd (s : State) (m : Mode) : (s.setMode m).lcd = { s.lcd with mode := m } := rfl
@[simp] theorem State.setLy_lcd (s : State) (v : Byte) : (s.setLy v).lcd = { s.lcd with ly := v } := rfl
@[simp] theorem State.requestStatus_regs (s : State) (b : Bool) : (s.requestStatus b).regs = s.regs := by cases b <;> rfl
@[simp] theorem State.compareLine_regs (s : State) : s.compareLine.regs = s.regs := s.requestStatus_regs _
@[simp] theorem State.requestStatus_timer (s : State) (b : Bool) : (s.requestStatus b).timer = s.timer := by cases b <;> rfl
@[simp] theorem State.compareLine_timer (s : State) : s.compareLine.timer = s.timer := s.requestStatus_timer _
@[simp] theorem State.requestStatus_lcd (s : State) (b : Bool) : (s.requestStatus b).lcd = s.lcd := by cases b <;> rfl
@[simp] theorem State.compareLine_lcd (s : State) : s.compareLine.lcd = s.lcd := s.requestStatus_lcd _
@[simp] theorem State.requestStatus_mem (s : State) (b : Bool) : (s.requestStatus b).mem = s.mem := by cases b <;> rfl
@[simp] theorem State.compareLine_mem (s : State) : s.compareLine.mem = s.mem := s.requestStatus_mem _
@[simp] theorem State.requestStatus_dmaReg (s : State) (b : Bool) : (s.requestStatus b).dmaReg = s.dmaReg := by cases b <;> rfl
@[simp] theorem State.compareLine_dmaReg (s : State) : s.compareLine.dmaReg = s.dmaReg := s.requestStatus_dmaReg _
@[simp] theorem State.requestStatus_joypSel (s : State) (b : Bool) : (s.requestStatus b).joypSel = s.joypSel := by cases b <;> rfl
@[simp] theorem State.compareLine_joypSel (s : State) : s.compareLine.joypSel = s.joypSel := s.requestStatus_joypSel _
@[simp] theorem State.requestStatus_cart (s : State) (b : Bool) : (s.requestStatus b).cart = s.cart := by cases b <;> rfl
@[simp] theorem State.compareLine_cart (s : State) : s.compareLine.cart = s.cart := s.requestStatus_cart _
@[simp] theorem State.requestStatus_input (s : State) (b : Bool) : (s.requestStatus b).input = s.input := by cases b <;> rfl
@[simp] theorem State.compareLine_input (s : State) : s.compareLine.input = s.input := s.requestStatus_input _
@[simp] theorem State.requestStatus_inputQueue (s : State) (b : Bool) : (s.requestStatus b).inputQueue = s.inputQueue := by cases b <;> rfl
@[simp] theorem State.compareLine_inputQueue (s : State) : s.compareLine.inputQueue = s.inputQueue := s.requestStatus_inputQueue _
@[simp] theorem State.requestStatus_ieHigh (s : State) (b : Bool) : (s.requestStatus b).ieHigh = s.ieHigh := by cases b <;> rfl
@[simp] theorem State.compareLine_ieHigh (s : State) : s.compareLine.ieHigh = s.ieHigh := s.requestStatus_ieHigh _
@[simp] theorem State.requestStatus_run (s : State) (b : Bool) : (s.requestStatus b).run = s.run := by cases b <;> rfl
@[simp] theorem State.compareLine_run (s : State) : s.compareLine.run = s.run := s.requestStatus_run _
@[simp] theorem State.requestStatus_cost (s : State) (b : Bool) : (s.requestStatus b).cost = s.cost := by cases b <;> rfl
@[simp] theorem State.compareLine_cost (s : State) : s.compareLine.cost = s.cost := s.requestStatus_cost _

/-! ## The host's input -/

theorem State.sampleInput_some {s : State} {sample : Buttons} {rest : List Buttons} (h : s.inputQueue = sample :: rest) :
    s.sampleInput = { s with input := sample, inputQueue := rest } := by
  unfold State.sampleInput
  rw [h]

theorem State.sampleInput_none {s : State} (h : s.inputQueue = []) : s.sampleInput = s := by
  unfold State.sampleInput
  rw [h]

/-- A sample changes INPUT and what is to come of it, and nothing else. -/
theorem State.sampleInput_only (s : State) :
    s.sampleInput = { s with input := s.sampleInput.input, inputQueue := s.sampleInput.inputQueue } := by
  unfold State.sampleInput
  split <;> rfl

@[simp] theorem State.sampleInput_regs (s : State) : s.sampleInput.regs = s.regs := by rw [s.sampleInput_only]
@[simp] theorem State.sampleInput_ints (s : State) : s.sampleInput.ints = s.ints := by rw [s.sampleInput_only]
@[simp] theorem State.sampleInput_timer (s : State) : s.sampleInput.timer = s.timer := by rw [s.sampleInput_only]
@[simp] theorem State.sampleInput_lcd (s : State) : s.sampleInput.lcd = s.lcd := by rw [s.sampleInput_only]
@[simp] theorem State.sampleInput_mem (s : State) : s.sampleInput.mem = s.mem := by rw [s.sampleInput_only]
@[simp] theorem State.sampleInput_dmaReg (s : State) : s.sampleInput.dmaReg = s.dmaReg := by rw [s.sampleInput_only]
@[simp] theorem State.sampleInput_joypSel (s : State) : s.sampleInput.joypSel = s.joypSel := by rw [s.sampleInput_only]
@[simp] theorem State.sampleInput_cart (s : State) : s.sampleInput.cart = s.cart := by rw [s.sampleInput_only]
@[simp] theorem State.sampleInput_ieHigh (s : State) : s.sampleInput.ieHigh = s.ieHigh := by rw [s.sampleInput_only]
@[simp] theorem State.sampleInput_run (s : State) : s.sampleInput.run = s.run := by rw [s.sampleInput_only]
@[simp] theorem State.sampleInput_cost (s : State) : s.sampleInput.cost = s.cost := by rw [s.sampleInput_only]

end Sys2Proof.Machine
end

