-- ==== Sys2Proof/Laws/Bus.lean ====
section
/-! SUPPORT. What the bus primitives can do: reads, writes, the DMA copy and the word accesses. -/

namespace Sys2Proof.Machine

/-- The state an operation ends in, fatal or not. -/
def Act.endsIn (act : Act State) (t : State) : Prop := act = .ok t ∨ act = .error t

/-! ## Reads -/

/-- R11, R101: a byte read gives the bus's byte, or ends in the fatal state where the cartridge declines. -/
theorem State.readByte_eq (s : State) (a : Word) :
    s.readByte a = match s.busRead a with
      | some v => .ok v
      | none => .error (s.raise (.unmappedAccess a .read)) := rfl

theorem State.readByte_ok {s : State} {a : Word} {v : Byte} (h : s.busRead a = some v) : s.readByte a = .ok v := by
  rw [s.readByte_eq, h]

theorem State.readByte_declined {s : State} {a : Word} (h : s.busRead a = none) :
    s.readByte a = .error (s.raise (.unmappedAccess a .read)) := by
  rw [s.readByte_eq, h]

theorem State.readByte_ok_iff {s : State} {a : Word} {v : Byte} : s.readByte a = .ok v ↔ s.busRead a = some v := by
  rw [s.readByte_eq]
  cases s.busRead a <;> simp

theorem State.readByte_error {s t : State} {a : Word} (h : s.readByte a = .error t) :
    s.busRead a = none ∧ t = s.raise (.unmappedAccess a .read) := by
  rw [s.readByte_eq] at h
  cases hr : s.busRead a <;> simp_all

theorem State.readWord_ok {s : State} {a : Word} {lo hi : Byte} (hlo : s.busRead a = some lo)
    (hhi : s.busRead (a + 1) = some hi) : s.readWord a = .ok (joinBytes hi lo) := by
  simp only [State.readWord, State.readByte_ok hlo, State.readByte_ok hhi]
  rfl

theorem State.readWord_error {s t : State} {a : Word} (h : s.readWord a = .error t) : ∃ k, t = s.raise k := by
  simp only [State.readWord] at h
  cases hlo : s.readByte a with
  | error u =>
    rw [hlo] at h
    obtain ⟨-, rfl⟩ := State.readByte_error hlo
    exact ⟨_, (Except.error.inj h).symm⟩
  | ok lo =>
    rw [hlo] at h
    cases hhi : s.readByte (a + 1) with
    | error u =>
      obtain ⟨-, rfl⟩ := State.readByte_error hhi
      rw [hhi] at h
      exact ⟨_, (Except.error.inj h).symm⟩
    | ok hi =>
      rw [hhi] at h
      cases h

/-- A read looks at none of the CPU registers, the run state and the step cost. -/
@[simp] theorem State.busRead_regs (s : State) (r : Regs) (a : Word) : State.busRead { s with regs := r } a = s.busRead a := rfl
@[simp] theorem State.busRead_cost (s : State) (m : Nat) (a : Word) : State.busRead { s with cost := m } a = s.busRead a := rfl
@[simp] theorem State.busRead_setReg (s : State) (r : Reg8) (v : Byte) (a : Word) : (s.setReg r v).busRead a = s.busRead a := by
  cases r <;> rfl
@[simp] theorem State.busRead_setFlags (s : State) (z n h c : Bool) (a : Word) :
    (s.setFlags z n h c).busRead a = s.busRead a := rfl
@[simp] theorem State.busRead_setPair (s : State) (p : Pair) (v : Word) (a : Word) :
    (s.setPair p v).busRead a = s.busRead a := by
  cases p <;> rfl
@[simp] theorem State.busRead_setPc (s : State) (v a : Word) : (s.setPc v).busRead a = s.busRead a := rfl
@[simp] theorem State.busRead_setSp (s : State) (v a : Word) : (s.setSp v).busRead a = s.busRead a := rfl
@[simp] theorem State.busRead_setIme (s : State) (b : Bool) (a : Word) : (s.setIme b).busRead a = s.busRead a := rfl
@[simp] theorem State.busRead_raise (s : State) (k : Fatal) (a : Word) : (s.raise k).busRead a = s.busRead a := rfl
@[simp] theorem State.busRead_tickDelays (s : State) (a : Word) : s.tickDelays.busRead a = s.busRead a := by
  have hi : s.tickDelays.ints.ie = s.ints.ie ∧ s.tickDelays.ints.iflag = s.ints.iflag := by
    simp only [State.tickDelays, Interrupts.tickEi, Interrupts.tickDi]
    constructor <;> (repeat' split) <;> rfl
  unfold State.busRead
  cases region a with
  | io r =>
    cases r with
    | iflag => simp only [State.ioRead, hi.2]
    | _ => rfl
  | ie => simp only [hi.1, State.tickDelays_ieHigh]
  | _ => rfl

/-! ## The address map -/

/-- R91, R92: the ranges of the map. -/
theorem region_cart {a : Word} : region a = .cart ↔ a.toNat < 0x8000 ∨ (0xA000 ≤ a.toNat ∧ a.toNat < 0xC000) := by
  simp only [region]
  split_ifs <;> simp <;> omega

theorem region_unusable {a : Word} : region a = .unusable ↔ 0xFEA0 ≤ a.toNat ∧ a.toNat < 0xFF00 := by
  simp only [region]
  split_ifs <;> simp <;> omega

theorem region_ie {a : Word} : region a = .ie ↔ a = 0xFFFF := by
  have h : a = 0xFFFF ↔ a.toNat = 0xFFFF := by
    constructor
    · rintro rfl
      rfl
    · exact fun h => BitVec.eq_of_toNat_eq h
  rw [h]
  have := a.isLt
  simp only [region]
  split_ifs <;> simp <;> omega

theorem region_io {a : Word} {r : IoReg} : region a = .io r ↔ (0xFF00 ≤ a.toNat ∧ a.toNat < 0xFF80) ∧ ioReg a = r := by
  simp only [region]
  split_ifs <;> simp <;> omega

/-- R91, R94: the stored ranges, with the echo on work memory. -/
theorem region_store {a : Word} {key : Nat} : region a = .store key ↔
    (key = a.toNat ∧ ((0x8000 ≤ a.toNat ∧ a.toNat < 0xA000) ∨ (0xC000 ≤ a.toNat ∧ a.toNat < 0xE000) ∨
        (0xFE00 ≤ a.toNat ∧ a.toNat < 0xFEA0) ∨ (0xFF80 ≤ a.toNat ∧ a.toNat < 0xFFFF))) ∨
      (key = a.toNat - 0x2000 ∧ 0xE000 ≤ a.toNat ∧ a.toNat < 0xFE00) := by
  simp only [region]
  split_ifs <;> simp <;> omega

/-- R40: the key of a stored address is one of the block's bytes, and a memory byte at it is not an I/O byte. -/
theorem region_store_key {a : Word} {key : Nat} (h : region a = .store key) :
    storedKey key ∧ (key < 0xFF00 ∨ 0xFF80 ≤ key) := by
  rw [region_store] at h
  unfold storedKey
  omega

/-! ## The DMA copy -/

theorem dmaCopy_nil (page : Byte) (s : State) : dmaCopy page [] s = .ok s := rfl

theorem dmaCopy_cons_ok {page : Byte} {i : Nat} {rest : List Nat} {s : State} {v : Byte}
    (h : s.busRead (joinBytes page 0 + BitVec.ofNat 16 i) = some v) :
    dmaCopy page (i :: rest) s = dmaCopy page rest { s with mem := s.mem.write (oamBase + i) v } := by
  simp only [dmaCopy, State.readByte_ok h]
  rfl

theorem dmaCopy_cons_declined {page : Byte} {i : Nat} {rest : List Nat} {s : State}
    (h : s.busRead (joinBytes page 0 + BitVec.ofNat 16 i) = none) :
    dmaCopy page (i :: rest) s = .error (s.raise (.unmappedAccess (joinBytes page 0 + BitVec.ofNat 16 i) .read)) := by
  simp only [dmaCopy, State.readByte_declined h]
  rfl

/-- R102: whatever holds before a copy, and is kept by one stored byte of OAM and by a declined read, holds after it. -/
theorem dmaCopy_induction {P : State → Prop} {page : Byte}
    (hbyte : ∀ (s : State) (i : Nat) (v : Byte), i < 160 → P s → P { s with mem := s.mem.write (oamBase + i) v })
    (hraise : ∀ (s : State) (k : Fatal), P s → P (s.raise k)) :
    ∀ (l : List Nat) (s t : State), (∀ i ∈ l, i < 160) → P s → (dmaCopy page l s).endsIn t → P t := by
  intro l
  induction l with
  | nil =>
    rintro s t - hs (h | h) <;> cases h
    exact hs
  | cons i rest ih =>
    intro s t hl hs h
    cases hr : s.busRead (joinBytes page 0 + BitVec.ofNat 16 i) with
    | some v =>
      rw [dmaCopy_cons_ok hr] at h
      exact ih _ t (fun j hj => hl j (by simp [hj])) (hbyte s i v (hl i (by simp)) hs) h
    | none =>
      rw [dmaCopy_cons_declined hr] at h
      rcases h with h | h <;> cases h
      exact hraise s _ hs

theorem writeDma_induction {P : State → Prop} {s t : State} {v : Byte}
    (hbyte : ∀ (s : State) (i : Nat) (v : Byte), i < 160 → P s → P { s with mem := s.mem.write (oamBase + i) v })
    (hraise : ∀ (s : State) (k : Fatal), P s → P (s.raise k)) (hs : P { s with dmaReg := v })
    (h : (s.writeDma v).endsIn t) : P t :=
  dmaCopy_induction hbyte hraise _ _ t (fun _ hi => List.mem_range.mp hi) hs h

/-- R102: the copy changes the bytes of OAM and nothing else, but for the fatal state. -/
theorem writeDma_frame {s t : State} {v : Byte} (h : (s.writeDma v).endsIn t) :
    t = { s with dmaReg := v, mem := t.mem, run := t.run, cost := t.cost } ∧
      ∀ key, key < 0xFE00 ∨ 0xFEA0 ≤ key → t.mem.read key = s.mem.read key := by
  refine writeDma_induction (P := fun t => t = { s with dmaReg := v, mem := t.mem, run := t.run, cost := t.cost } ∧
    ∀ key, key < 0xFE00 ∨ 0xFEA0 ≤ key → t.mem.read key = s.mem.read key) ?_ ?_ ?_ h
  · rintro u i w hi ⟨hu, hm⟩
    refine ⟨by rw [hu], fun key hk => ?_⟩
    show (u.mem.write (oamBase + i) w).read key = _
    rw [Memory.read_write_other _ _ (by unfold oamBase; omega)]
    exact hm key hk
  · rintro u k ⟨hu, hm⟩
    exact ⟨by rw [hu]; rfl, hm⟩
  · exact ⟨rfl, fun _ _ => rfl⟩

/-! ## Writes -/

/-- R92: whatever is kept by each kind of write is kept by a byte write. `P` may be any property of states. -/
theorem State.writeByte_induction {P : State → Prop} {s t : State} {a : Word} {v : Byte}
    (hcart : ∀ c, s.cart.write a v = some c → P { s with cart := c })
    (hdeclined : P (s.raise (.unmappedAccess a .write)))
    (hstore : ∀ key, region a = .store key → P { s with mem := s.mem.write key v })
    (hsame : P s)
    (hie : P { s with ints := { s.ints with ie := v.extractLsb' 0 5 } })
    (hio : ∀ r, region a = .io r → ∀ u, (s.ioWrite a r v).endsIn u → P u)
    (h : (s.writeByte a v).endsIn t) : P t := by
  unfold State.writeByte at h
  cases hr : region a with
  | cart =>
    simp only [hr] at h
    cases hc : s.cart.write a v with
    | some c =>
      simp only [hc] at h
      rcases h with h | h <;> cases h
      exact hcart c hc
    | none =>
      simp only [hc] at h
      rcases h with h | h <;> cases h
      exact hdeclined
  | store key =>
    simp only [hr] at h
    rcases h with h | h <;> cases h
    exact hstore key hr
  | unusable =>
    simp only [hr] at h
    rcases h with h | h <;> cases h
    exact hsame
  | io r =>
    simp only [hr] at h
    exact hio r hr t h
  | ie =>
    simp only [hr] at h
    rcases h with h | h <;> cases h
    exact hie

/-- An I/O write changes no CPU register, no IME, halted flag or delay counter, no cartridge and no input, and of the
run state and the cost nothing unless it ends in the fatal state. -/
theorem State.ioWrite_frame {s t : State} {a : Word} {r : IoReg} {v : Byte} (h : (s.ioWrite a r v).endsIn t) :
    t.regs = s.regs ∧ t.ints = { s.ints with iflag := t.ints.iflag } ∧ t.cart = s.cart ∧ t.input = s.input ∧
      t.inputQueue = s.inputQueue ∧ t.ieHigh = s.ieHigh := by
  cases r with
  | dma =>
    obtain ⟨h, -⟩ := writeDma_frame (v := v) h
    rw [h]
    exact ⟨rfl, rfl, rfl, rfl, rfl, rfl⟩
  | _ => rcases h with h | h <;> cases h <;> exact ⟨rfl, rfl, rfl, rfl, rfl, rfl⟩

/-- R92: a byte write changes no CPU register, and no IME, halted flag or delay counter. -/
theorem State.writeByte_frame {s t : State} {a : Word} {v : Byte} (h : (s.writeByte a v).endsIn t) :
    t.regs = s.regs ∧ t.ints = { s.ints with ie := t.ints.ie, iflag := t.ints.iflag } ∧ t.input = s.input ∧
      t.inputQueue = s.inputQueue ∧ t.ieHigh = s.ieHigh := by
  refine State.writeByte_induction (P := fun t => t.regs = s.regs ∧
    t.ints = { s.ints with ie := t.ints.ie, iflag := t.ints.iflag } ∧ t.input = s.input ∧
      t.inputQueue = s.inputQueue ∧ t.ieHigh = s.ieHigh) ?_ ?_ ?_ ?_ ?_ ?_ h
  · exact fun _ _ => ⟨rfl, rfl, rfl, rfl, rfl⟩
  · exact ⟨rfl, rfl, rfl, rfl, rfl⟩
  · exact fun _ _ => ⟨rfl, rfl, rfl, rfl, rfl⟩
  · exact ⟨rfl, rfl, rfl, rfl, rfl⟩
  · exact ⟨rfl, rfl, rfl, rfl, rfl⟩
  · intro r _ u hu
    obtain ⟨h1, h2, -, h4, h5, h6⟩ := State.ioWrite_frame hu
    exact ⟨h1, by rw [h2], h4, h5, h6⟩

/-- R11: the outcomes of a word write: of its first byte write where that is fatal, else of its second. -/
theorem State.writeWord_endsIn {s t : State} {a v : Word} (h : (s.writeWord a v).endsIn t) :
    s.writeByte a (lowByte v) = .error t ∨
      ∃ u, s.writeByte a (lowByte v) = .ok u ∧ (u.writeByte (a + 1) (highByte v)).endsIn t := by
  simp only [State.writeWord] at h
  cases hw : s.writeByte a (lowByte v) with
  | error u =>
    rw [hw] at h
    rcases h with h | h <;> cases h
    exact .inl rfl
  | ok u =>
    rw [hw] at h
    exact .inr ⟨u, rfl, h⟩

/-- Whatever every byte write keeps, a word write keeps. -/
theorem State.writeWord_keeps {P : State → Prop} {s t : State} {a v : Word}
    (hbyte : ∀ s t a v, P s → (s.writeByte a v).endsIn t → P t) (hs : P s) (h : (s.writeWord a v).endsIn t) : P t := by
  rcases State.writeWord_endsIn h with h | ⟨u, hu, h⟩
  · exact hbyte s t _ _ hs (.inr h)
  · exact hbyte u t _ _ (hbyte s u _ _ hs (.inl hu)) h

theorem State.writeWord_frame {s t : State} {a v : Word} (h : (s.writeWord a v).endsIn t) :
    t.regs = s.regs ∧ t.ints = { s.ints with ie := t.ints.ie, iflag := t.ints.iflag } ∧ t.input = s.input ∧
      t.inputQueue = s.inputQueue ∧ t.ieHigh = s.ieHigh := by
  refine State.writeWord_keeps (P := fun t => t.regs = s.regs ∧
    t.ints = { s.ints with ie := t.ints.ie, iflag := t.ints.iflag } ∧ t.input = s.input ∧
      t.inputQueue = s.inputQueue ∧ t.ieHigh = s.ieHigh) ?_ ⟨rfl, rfl, rfl, rfl, rfl⟩ h
  rintro u w a v ⟨h1, h2, h3, h4, h5⟩ hw
  obtain ⟨g1, g2, g3, g4, g5⟩ := State.writeByte_frame hw
  exact ⟨g1.trans h1, by rw [g2, h2], g3.trans h3, g4.trans h4, g5.trans h5⟩

end Sys2Proof.Machine
end

