-- ==== Sys2Proof/Laws/Devices.lean ====
section
/-! SUPPORT. What the timer and the display can do: the timer changes its own registers and IF, the display its own
and IF, and each loop's turns add up. -/

namespace Sys2Proof.Machine

/-! ## The timer -/

theorem turns_add (m n : Nat) (body : State → State) (s : State) : turns (m + n) body s = turns n body (turns m body s) := by
  induction m generalizing s with
  | zero => simp [turns]
  | succ m ih =>
    rw [Nat.succ_add]
    exact ih (body s)

/-- Whatever a loop body keeps, its turns keep. -/
theorem turns_keeps {P : State → Prop} {body : State → State} (hbody : ∀ s, P s → P (body s)) (n : Nat) {s : State}
    (hs : P s) : P (turns n body s) := by
  induction n generalizing s with
  | zero => exact hs
  | succ n ih => exact ih (hbody s hs)

/-- What the timer may change: its own registers, and IF. -/
def timerOnly (s t : State) : Prop := t = { s with timer := t.timer, ints := { s.ints with iflag := t.ints.iflag } }

theorem timaTick_only (s : State) : timerOnly s s.timaTick := by
  unfold timerOnly State.timaTick
  split <;> rfl

theorem timerOnly_trans {s t u : State} (h1 : timerOnly s t) (h2 : timerOnly t u) : timerOnly s u := by
  unfold timerOnly at *
  rw [h2, h1]

theorem advanceDivider_only (s : State) (t : Nat) : timerOnly s (s.advanceDivider t) := by
  exact turns_keeps (P := timerOnly s) (fun u hu => timerOnly_trans (u := u.divTick) hu rfl) _ rfl

theorem advanceCounter_only (s : State) (t : Nat) : timerOnly s (s.advanceCounter t) := by
  unfold State.advanceCounter
  split
  · exact turns_keeps (P := timerOnly s) (fun u hu => timerOnly_trans hu (timaTick_only u)) _ rfl
  · rfl

/-- R399 to R402: the timer's advance changes its own registers and IF alone. -/
theorem State.timerStep_only (s : State) (t : Nat) : timerOnly s (s.timerStep t) :=
  timerOnly_trans (advanceDivider_only s t) (advanceCounter_only _ t)

/-- The divider's turns in closed form. -/
theorem turns_divTick (n : Nat) (s : State) :
    turns n State.divTick s = { s with timer := { s.timer with div := s.timer.div + BitVec.ofNat 8 n } } := by
  induction n generalizing s with
  | zero => simp [turns]
  | succ n ih =>
    rw [turns, ih]
    simp only [State.divTick]
    congr 2
    apply BitVec.eq_of_toNat_eq
    simp [BitVec.toNat_add, BitVec.toNat_ofNat]
    omega

/-- R400 in closed form. -/
theorem State.advanceDivider_eq (s : State) (t : Nat) :
    s.advanceDivider t =
      { s with timer := { s.timer with div := s.timer.div + BitVec.ofNat 8 ((s.timer.divAcc + t) / 256), divAcc := (s.timer.divAcc + t) % 256 } } := by
  simp only [State.advanceDivider, turns_divTick]
  rfl

/-! ## The display -/

/-- What the display may change: its own registers, and IF. -/
def displayOnly (s t : State) : Prop := t = { s with lcd := t.lcd, ints := { s.ints with iflag := t.ints.iflag } }

theorem displayOnly_trans {s t u : State} (h1 : displayOnly s t) (h2 : displayOnly t u) : displayOnly s u := by
  unfold displayOnly at *
  rw [h2, h1]

theorem requestStatus_only (s : State) (b : Bool) : displayOnly s (s.requestStatus b) := by
  cases b <;> rfl

theorem request_only (s : State) (i : Fin 5) : displayOnly s (s.request i) := rfl

theorem setMode_only (s : State) (m : Mode) : displayOnly s (s.setMode m) := rfl

theorem setLy_only (s : State) (v : Byte) : displayOnly s (s.setLy v) := rfl

theorem render_only (s : State) (ly : Nat) : displayOnly s (s.render ly) := rfl

theorem compareLine_only (s : State) : displayOnly s s.compareLine := requestStatus_only _ _

theorem endPixelTransfer_only (s : State) : displayOnly s s.endPixelTransfer :=
  displayOnly_trans (displayOnly_trans (render_only s _) (setMode_only _ _)) (requestStatus_only _ _)

theorem endHblank_only (s : State) : displayOnly s s.endHblank := by
  have h : displayOnly s (s.setLy (s.lcd.ly + 1)).compareLine := displayOnly_trans (setLy_only s _) (compareLine_only _)
  unfold State.endHblank
  dsimp only
  split
  · exact displayOnly_trans h (displayOnly_trans (displayOnly_trans (setMode_only _ _) (request_only _ 0))
      (requestStatus_only _ _))
  · exact displayOnly_trans h (displayOnly_trans (setMode_only _ _) (requestStatus_only _ _))

theorem endVblankLine_only (s : State) : displayOnly s s.endVblankLine := by
  have h : displayOnly s (s.setLy (s.lcd.ly + 1)) := setLy_only s _
  unfold State.endVblankLine
  dsimp only
  split
  · exact displayOnly_trans h (displayOnly_trans (displayOnly_trans (displayOnly_trans (setLy_only _ _) (setMode_only _ _))
      (requestStatus_only _ _)) (compareLine_only _))
  · exact displayOnly_trans h (compareLine_only _)

/-- One turn of the display's loop changes its own registers and IF alone. -/
theorem State.displayTurn_only {s t : State} (h : s.displayTurn = some t) : displayOnly s t := by
  unfold State.displayTurn at h
  split at h
  · have h0 : displayOnly s { s with lcd := { s.lcd with modeClock := s.lcd.modeClock - s.lcd.mode.duration } } := rfl
    dsimp only at h
    split at h <;> cases h
    · exact displayOnly_trans h0 (setMode_only _ _)
    · exact displayOnly_trans h0 (endPixelTransfer_only _)
    · exact displayOnly_trans h0 (endHblank_only _)
    · exact displayOnly_trans h0 (endVblankLine_only _)
  · cases h

/-- Whatever a turn keeps, the loop keeps. -/
theorem displayLoop_keeps {P : State → Prop} (hturn : ∀ s t, P s → s.displayTurn = some t → P t) (n : Nat) {s : State}
    (hs : P s) : P (displayLoop n s) := by
  induction n generalizing s with
  | zero => exact hs
  | succ n ih =>
    rw [displayLoop]
    cases ht : s.displayTurn with
    | none => exact hs
    | some t => exact ih (hturn s t hs ht)

/-- R410, R412: the display's advance changes its own registers and IF alone. -/
theorem State.displayStep_only (s : State) (t : Nat) : displayOnly s (s.displayStep t) := by
  unfold State.displayStep
  split
  · exact displayLoop_keeps (P := displayOnly s) (fun u v hu hv => displayOnly_trans hu (State.displayTurn_only hv)) _ rfl
  · rfl

/-- A turn takes its mode's duration off the clock, at least 80 T-cycles. -/
theorem State.displayTurn_clock {s t : State} (h : s.displayTurn = some t) :
    s.lcd.mode.duration ≤ s.lcd.modeClock ∧ t.lcd.modeClock = s.lcd.modeClock - s.lcd.mode.duration := by
  unfold State.displayTurn at h
  split at h
  · refine ⟨by assumption, ?_⟩
    split at h <;> cases h
    · rfl
    · simp only [State.endPixelTransfer, State.requestStatus_lcd, State.setMode_lcd]
      rfl
    · simp only [State.endHblank]
      split <;> simp [State.request]
    · simp only [State.endVblankLine]
      split <;> simp
  · cases h

theorem Mode.duration_pos (m : Mode) : 80 ≤ m.duration := by
  cases m <;> decide

/-- R412: enough turns reach the exit of the loop, where the clock is below the mode's duration. -/
theorem displayLoop_exits (n : Nat) (s : State) (hn : s.lcd.modeClock < 80 * n) :
    (displayLoop n s).lcd.modeClock < (displayLoop n s).lcd.mode.duration := by
  induction n generalizing s with
  | zero => omega
  | succ n ih =>
    rw [displayLoop]
    cases ht : s.displayTurn with
    | none =>
      simp only [State.displayTurn] at ht
      split at ht
      · split at ht <;> cases ht
      · show s.lcd.modeClock < s.lcd.mode.duration
        omega
    | some t =>
      obtain ⟨hle, hc⟩ := State.displayTurn_clock ht
      have := s.lcd.mode.duration_pos
      exact ih t (by omega)

/-- R412: turns past the loop's exit change nothing. -/
theorem displayLoop_more (n k : Nat) (s : State) (hn : s.lcd.modeClock < 80 * n) : displayLoop (n + k) s = displayLoop n s := by
  induction n generalizing s with
  | zero => omega
  | succ n ih =>
    rw [Nat.succ_add, displayLoop, displayLoop]
    cases ht : s.displayTurn with
    | none => rfl
    | some t =>
      obtain ⟨hle, hc⟩ := State.displayTurn_clock ht
      have := s.lcd.mode.duration_pos
      exact ih t (by omega)

/-- R412: the loop runs to its exit. -/
theorem displayTurns_enough (clock : Nat) : clock < 80 * displayTurns clock := by
  unfold displayTurns
  omega

end Sys2Proof.Machine
end

