-- ==== Sys2Proof/Laws/Forms.lean ====
section
/-! SUPPORT. The 512 meanings by operand form: `exec` is the shared operation of the instruction's form, with the
operands its mnemonic names. A proof about a whole family cites this and never opens the 512 arms. -/

namespace Sys2Proof.Machine

/-- The shared operation of each form. -/
def execForm (f : Form) (s : State) : Result :=
  match f with
  | .ldRegReg d r => ldRegReg d r s
  | .ldRegImm d n8 => ldRegImm d n8 s
  | .ldRegAtHL d => ldRegAtHL d s
  | .ldAtHLReg r => ldAtHLReg r s
  | .ldAtHLImm n8 => ldAtHLImm n8 s
  | .ldAAtPair p => loadA 2 (s.pair p) s
  | .ldAtPairA p => storeA 2 (s.pair p) s
  | .ldAAtImm n16 => loadA 4 n16 s
  | .ldAtImmA n16 => storeA 4 n16 s
  | .ldhAAtImm n8 => loadA 3 (ioPage n8) s
  | .ldhAtImmA n8 => storeA 3 (ioPage n8) s
  | .ldAAtC => loadA 2 (ioPage s.regs.c) s
  | .ldAtCA => storeA 2 (ioPage s.regs.c) s
  | .ldAtHLincA => storeAThenStep 1 s
  | .ldAtHLdecA => storeAThenStep (-1) s
  | .ldAAtHLinc => loadAThenStep 1 s
  | .ldAAtHLdec => loadAThenStep (-1) s
  | .ldPairImm rr n16 => ldPairImm rr n16 s
  | .ldAtImmSP n16 => ldAtImmSP n16 s
  | .ldSPHL => ldSPHL s
  | .ldHLSPe8 e8 => ldHLSPe8 e8 s
  | .push qq => pushPair qq s
  | .pop qq => popPair qq s
  | .aluReg op r => aluReg op r s
  | .aluAtHL op => aluAtHL op s
  | .aluImm op n8 => aluImm op n8 s
  | .incReg r => incReg r s
  | .incAtHL => incAtHL s
  | .decReg r => decReg r s
  | .decAtHL => decAtHL s
  | .daa => daa s
  | .cpl => cpl s
  | .scf => scf s
  | .ccf => ccf s
  | .addHLPair rr => addHLPair rr s
  | .incPair rr => incPair rr s
  | .decPair rr => decPair rr s
  | .addSPe8 e8 => addSPe8 e8 s
  | .rotA op => rotA op s
  | .shiftReg op r => shiftReg op r s
  | .shiftAtHL op => shiftAtHL op s
  | .bitReg b r => bitReg b r s
  | .bitAtHL b => bitAtHL b s
  | .resReg b r => resReg b r s
  | .resAtHL b => resAtHL b s
  | .setReg b r => setBitReg b r s
  | .setAtHL b => setBitAtHL b s
  | .jp n16 => jp n16 s
  | .jpCond cc n16 => jpCond cc n16 s
  | .jpHL => jpHL s
  | .jr e8 => jr e8 s
  | .jrCond cc e8 => jrCond cc e8 s
  | .call n16 => call n16 s
  | .callCond cc n16 => callCond cc n16 s
  | .ret => ret s
  | .retCond cc => retCond cc s
  | .reti => reti s
  | .rst t => rst t s
  | .nop => nop s
  | .halt => halt s
  | .stop _ => stopUnder Config.stopPolicy s
  | .di => di s
  | .ei => ei s
  | .prefixCb op2 => cbPage op2 s
  | .illegal op => unimplemented op 1 s

theorem exec_eq_execForm (i : Instr) (s : State) : exec i s = execForm i.form s := by
  cases i <;> rfl

/-- R135, R136: the pairs a form may name: BC, DE, HL and SP, or BC, DE, HL and AF for PUSH and POP; and the pairs that
address memory are BC and DE (R166 to R169). -/
def namesLegalPair (f : Form) : Bool :=
  match f with
  | .ldPairImm p _ | .addHLPair p | .incPair p | .decPair p => p != .AF
  | .push p | .pop p => p != .SP
  | .ldAAtPair p | .ldAtPairA p => p == .BC || p == .DE
  | _ => true

theorem form_namesLegalPair (i : Instr) : namesLegalPair i.form = true := by
  cases i <;> rfl

/-- The form decides whether an instruction is in its canonical spelling. -/
theorem wellFormed_iff (i : Instr) : i.WellFormed = true ↔ ∀ op2, i.form ≠ .prefixCb op2 := by
  unfold Instr.WellFormed
  cases i.form <;> simp

end Sys2Proof.Machine
end

