-- ==== Sys2Proof/Laws/Meanings.lean ====
section
/-! SUPPORT. What each shared operation that accesses memory answers: its next state where its accesses complete, and
the fatal state where the cartridge declines the first read. The operations on registers alone are their own equations. -/

namespace Sys2Proof.Machine

theorem finish_eq (m : Nat) (s : State) : finish m s = .next { s with cost := m } := rfl

theorem perform_ok {m : Nat} {act : Act State} {s : State} (h : act = .ok s) : perform m act = .next { s with cost := m } := by
  rw [h]
  rfl

theorem perform_error {m : Nat} {act : Act State} {s : State} (h : act = .error s) : perform m act = .next s := by
  rw [h]
  rfl

/-- `perform` always answers a next state: the operation's with the cost, or the fatal state it ended in. -/
theorem perform_next {m : Nat} {act : Act State} {t : State} (h : perform m act = .next t) :
    (∃ u, act = .ok u ∧ t = { u with cost := m }) ∨ act = .error t := by
  cases act with
  | ok u => exact .inl ⟨u, rfl, (Host.Outcome.next.inj h).symm⟩
  | error u => exact .inr (by rw [Host.Outcome.next.inj h])

theorem perform_answers (m : Nat) (act : Act State) : ∃ t, perform m act = .next t := by
  cases act with
  | ok u => exact ⟨_, rfl⟩
  | error u => exact ⟨u, rfl⟩

/-! ## Reading operations -/

theorem ldRegAtHL_next {s : State} {v : Byte} (d : Reg8) (h : s.busRead s.hl = some v) :
    ldRegAtHL d s = .next { s.setReg d v with cost := 2 } := by
  simp only [ldRegAtHL, State.readByte_ok h]
  rfl

theorem loadA_next {s : State} {a : Word} {v : Byte} (m : Nat) (h : s.busRead a = some v) :
    loadA m a s = .next { s.setReg .A v with cost := m } := by
  simp only [loadA, State.readByte_ok h]
  rfl

theorem loadAThenStep_next {s : State} {v : Byte} (delta : Word) (h : s.busRead s.hl = some v) :
    loadAThenStep delta s = .next { (s.setReg .A v).setPair .HL (s.hl + delta) with cost := 2 } := by
  simp only [loadAThenStep, State.readByte_ok h]
  rfl

theorem aluAtHL_next {s : State} {v : Byte} (op : AluOp) (h : s.busRead s.hl = some v) :
    aluAtHL op s = .next { s.alu op v with cost := 2 } := by
  simp only [aluAtHL, State.readByte_ok h]
  rfl

theorem bitAtHL_next {s : State} {v : Byte} (b : Fin 8) (h : s.busRead s.hl = some v) :
    bitAtHL b s = .next { s.bitFlags b v with cost := 3 } := by
  simp only [bitAtHL, State.readByte_ok h]
  rfl

/-- R12: `Pop16` where both reads give a byte. -/
theorem State.pop16_ok {s : State} {lo hi : Byte} (hlo : s.busRead s.regs.sp = some lo)
    (hhi : s.busRead (s.regs.sp + 1) = some hi) : s.pop16 = .ok (joinBytes hi lo, s.setSp (s.regs.sp + 2)) := by
  simp only [State.pop16, State.readWord_ok hlo hhi]
  rfl

theorem popPair_next {s : State} {lo hi : Byte} (qq : Pair) (hlo : s.busRead s.regs.sp = some lo)
    (hhi : s.busRead (s.regs.sp + 1) = some hi) :
    popPair qq s = .next { (s.setSp (s.regs.sp + 2)).setPair qq (joinBytes hi lo) with cost := 3 } := by
  simp only [popPair, State.pop16_ok hlo hhi]
  rfl

theorem ret_next {s : State} {lo hi : Byte} (hlo : s.busRead s.regs.sp = some lo)
    (hhi : s.busRead (s.regs.sp + 1) = some hi) :
    ret s = .next { (s.setSp (s.regs.sp + 2)).setPc (joinBytes hi lo) with cost := 4 } := by
  simp only [ret, State.returnFromCall, State.pop16_ok hlo hhi]
  rfl

theorem retCond_next {s : State} {lo hi : Byte} {cc : Cond} (hc : s.holds cc = true) (hlo : s.busRead s.regs.sp = some lo)
    (hhi : s.busRead (s.regs.sp + 1) = some hi) :
    retCond cc s = .next { (s.setSp (s.regs.sp + 2)).setPc (joinBytes hi lo) with cost := 5 } := by
  simp only [retCond, hc, State.returnFromCall, State.pop16_ok hlo hhi]
  rfl

theorem reti_next {s : State} {lo hi : Byte} (hlo : s.busRead s.regs.sp = some lo)
    (hhi : s.busRead (s.regs.sp + 1) = some hi) :
    reti s = .next { ((s.setSp (s.regs.sp + 2)).setPc (joinBytes hi lo)).setIme true with cost := 4 } := by
  simp only [reti, State.returnFromInterrupt, State.pop16_ok hlo hhi]
  rfl

/-! ## Storing operations -/

theorem ldAtHLReg_next {s t : State} {r : Reg8} (h : s.writeByte s.hl (s.reg r) = .ok t) :
    ldAtHLReg r s = .next { t with cost := 2 } := perform_ok h

theorem ldAtHLImm_next {s t : State} {n8 : Byte} (h : s.writeByte s.hl n8 = .ok t) :
    ldAtHLImm n8 s = .next { t with cost := 3 } := perform_ok h

theorem storeA_next {s t : State} {a : Word} (m : Nat) (h : s.writeByte a s.regs.a = .ok t) :
    storeA m a s = .next { t with cost := m } := perform_ok h

theorem storeAThenStep_next {s t : State} (delta : Word) (h : s.writeByte s.hl s.regs.a = .ok t) :
    storeAThenStep delta s = .next { t.setPair .HL (s.hl + delta) with cost := 2 } := by
  simp only [storeAThenStep, h]
  rfl

theorem incAtHL_next {s t : State} {v : Byte} (hr : s.busRead s.hl = some v) (hw : s.writeByte s.hl (v + 1) = .ok t) :
    incAtHL s = .next { t.incFlags v with cost := 3 } := by
  simp only [incAtHL, State.readByte_ok hr]
  show perform 3 (s.writeByte s.hl (v + 1) >>= fun s => .ok (s.incFlags v)) = _
  rw [hw]
  rfl

theorem decAtHL_next {s t : State} {v : Byte} (hr : s.busRead s.hl = some v) (hw : s.writeByte s.hl (v - 1) = .ok t) :
    decAtHL s = .next { t.decFlags v with cost := 3 } := by
  simp only [decAtHL, State.readByte_ok hr]
  show perform 3 (s.writeByte s.hl (v - 1) >>= fun s => .ok (s.decFlags v)) = _
  rw [hw]
  rfl

theorem shiftAtHL_next {s t : State} {v : Byte} {op : ShiftOp} (hr : s.busRead s.hl = some v)
    (hw : s.writeByte s.hl (shiftRes op v s.flagC) = .ok t) :
    shiftAtHL op s = .next { t.shiftFlags op v s.flagC with cost := 4 } := by
  simp only [shiftAtHL, State.readByte_ok hr]
  show perform 4 (s.writeByte s.hl (shiftRes op v s.flagC) >>= fun t => .ok (t.shiftFlags op v s.flagC)) = _
  rw [hw]
  rfl

theorem resAtHL_next {s t : State} {v : Byte} {b : Fin 8} (hr : s.busRead s.hl = some v)
    (hw : s.writeByte s.hl (clearBit v b) = .ok t) : resAtHL b s = .next { t with cost := 4 } := by
  simp only [resAtHL, State.readByte_ok hr]
  exact perform_ok hw

theorem setBitAtHL_next {s t : State} {v : Byte} {b : Fin 8} (hr : s.busRead s.hl = some v)
    (hw : s.writeByte s.hl (setBit v b) = .ok t) : setBitAtHL b s = .next { t with cost := 4 } := by
  simp only [setBitAtHL, State.readByte_ok hr]
  exact perform_ok hw

/-- R11: a word write whose two byte writes complete. -/
theorem State.writeWord_ok {s u t : State} {a v : Word} (hlo : s.writeByte a (lowByte v) = .ok u)
    (hhi : u.writeByte (a + 1) (highByte v) = .ok t) : s.writeWord a v = .ok t := by
  simp only [State.writeWord, hlo]
  exact hhi

theorem ldAtImmSP_next {s u t : State} {n16 : Word} (hlo : s.writeByte n16 (lowByte s.regs.sp) = .ok u)
    (hhi : u.writeByte (n16 + 1) (highByte s.regs.sp) = .ok t) : ldAtImmSP n16 s = .next { t with cost := 5 } :=
  perform_ok (State.writeWord_ok hlo hhi)

/-- R12: `Push16`. -/
theorem State.push16_ok {s u t : State} {v : Word}
    (hlo : (s.setSp (s.regs.sp - 2)).writeByte (s.regs.sp - 2) (lowByte v) = .ok u)
    (hhi : u.writeByte (s.regs.sp - 2 + 1) (highByte v) = .ok t) : s.push16 v = .ok t :=
  State.writeWord_ok hlo hhi

theorem pushPair_next {s t : State} {qq : Pair} (h : s.push16 (s.pair qq) = .ok t) :
    pushPair qq s = .next { t with cost := 4 } := perform_ok h

/-- R336, R341: a transfer that pushes PC. -/
theorem State.callTo_ok {s t : State} (target : Word) (h : s.push16 s.regs.pc = .ok t) :
    s.callTo target = .ok (t.setPc target) := by
  simp only [State.callTo, h]
  rfl

theorem call_next {s t : State} (n16 : Word) (h : s.push16 s.regs.pc = .ok t) :
    call n16 s = .next { t.setPc n16 with cost := 6 } := perform_ok (State.callTo_ok n16 h)

theorem callCond_next {s t : State} {cc : Cond} (n16 : Word) (hc : s.holds cc = true) (h : s.push16 s.regs.pc = .ok t) :
    callCond cc n16 s = .next { t.setPc n16 with cost := 6 } := by
  simp only [callCond, hc]
  exact perform_ok (State.callTo_ok n16 h)

theorem rst_next {s t : State} (n : Fin 8) (h : s.push16 s.regs.pc = .ok t) :
    rst n s = .next { t.setPc (restartTarget n) with cost := 4 } := perform_ok (State.callTo_ok _ h)

/-- R387: the dispatch of source i. -/
theorem State.dispatch_ok {s t : State} {i : Fin 5} (h : (s.setIme false).push16 s.regs.pc = .ok t) :
    s.dispatch i = .ok (t.setPc (interruptVector i)) := by
  simp only [State.dispatch, h]
  rfl

/-- R12: whatever every byte write and every change of SP keep, a push keeps. -/
theorem State.push16_keeps {P : State → Prop} {s t : State} {v : Word}
    (hsp : ∀ s v, P s → P (s.setSp v)) (hbyte : ∀ s t a v, P s → (s.writeByte a v).endsIn t → P t) (hs : P s)
    (h : (s.push16 v).endsIn t) : P t :=
  State.writeWord_keeps hbyte (hsp s _ hs) h

end Sys2Proof.Machine
end

