-- ==== Sys2Proof/Laws/Exec.lean ====
section
/-! SUPPORT. What every instruction keeps. `exec` changes the state only by writing CPU registers (F always with a clean
low nibble), byte writes, the switches of the interrupt controller, the step cost and a fatal error: a property that
each of these keeps is kept by every instruction, by dispatch and by fetch. And `exec` always answers a next state. -/

namespace Sys2Proof.Machine

/-- A property that each kind of change an instruction can make keeps. -/
structure Kept (P : State → Prop) : Prop where
  regs : ∀ (s : State) (r : Regs), P s → r.f = s.regs.f ∨ r.f &&& 0x0F = 0 → P { s with regs := r }
  cost : ∀ (s : State) (m : Nat), m ≤ 6 → P s → P { s with cost := m }
  raise : ∀ (s : State) (k : Fatal), P s → P (s.raise k)
  byte : ∀ (s t : State) (a : Word) (v : Byte), P s → (s.writeByte a v).endsIn t → P t
  switches : ∀ (s : State) (ime halted : Bool) (ei di : Fin 3), P s →
    P { s with ints := { s.ints with ime := ime, halted := halted, eiDelay := ei, diDelay := di } }

variable {P : State → Prop} (hP : Kept P)
include hP

theorem Kept.setReg (s : State) (r : Reg8) (v : Byte) (h : P s) : P (s.setReg r v) := by
  rw [s.setReg_eq]
  exact hP.regs s _ h (.inl (s.setReg_regs_f r v))

theorem Kept.setFlags (s : State) (z n h c : Bool) (hs : P s) : P (s.setFlags z n h c) :=
  hP.regs s _ hs (.inr (s.setFlags_low z n h c))

theorem Kept.setPair (s : State) (p : Pair) (v : Word) (h : P s) : P (s.setPair p v) := by
  rw [s.setPair_eq]
  refine hP.regs s _ h ?_
  cases p with
  | AF => exact .inr (State.setF_low _ _)
  | _ => exact .inl rfl

theorem Kept.setPc (s : State) (v : Word) (h : P s) : P (s.setPc v) := hP.regs s _ h (.inl rfl)

theorem Kept.setSp (s : State) (v : Word) (h : P s) : P (s.setSp v) := hP.regs s _ h (.inl rfl)

theorem Kept.setIme (s : State) (b : Bool) (h : P s) : P (s.setIme b) := hP.switches s b _ _ _ h

theorem Kept.alu (s : State) (op : AluOp) (b : Byte) (h : P s) : P (s.alu op b) := by
  unfold State.alu
  refine hP.setFlags _ _ _ _ _ ?_
  split
  · exact h
  · exact hP.setReg _ _ _ h

theorem Kept.finish {m : Nat} {s t : State} (hm : m ≤ 6) (hs : P s) (h : finish m s = .next t) : P t := by
  cases h
  exact hP.cost s m hm hs

theorem Kept.perform {m : Nat} {act : Act State} {t : State} (hm : m ≤ 6) (hact : ∀ u, act.endsIn u → P u)
    (h : perform m act = .next t) : P t := by
  rcases perform_next h with ⟨u, hu, rfl⟩ | hu
  · exact hP.cost u m hm (hact u (.inl hu))
  · exact hact t (.inr hu)

/-- A read, and then what is done with the byte. -/
theorem Kept.read {s : State} {a : Word} {k : Byte → Act State} (hs : P s) (hk : ∀ v, ∀ u, (k v).endsIn u → P u) :
    ∀ u, (s.readByte a >>= k).endsIn u → P u := by
  intro u h
  cases hr : s.busRead a with
  | some v =>
    rw [State.readByte_ok hr] at h
    exact hk v u h
  | none =>
    rw [State.readByte_declined hr] at h
    rcases h with h | h <;> cases h
    exact hP.raise s _ hs

/-- A byte write, and then what is done after it. -/
theorem Kept.write {s : State} {a : Word} {v : Byte} {k : State → Act State} (hs : P s)
    (hk : ∀ t, P t → ∀ u, (k t).endsIn u → P u) : ∀ u, (s.writeByte a v >>= k).endsIn u → P u := by
  intro u h
  cases hw : s.writeByte a v with
  | ok t =>
    rw [hw] at h
    exact hk t (hP.byte s t a v hs (.inl hw)) u h
  | error t =>
    rw [hw] at h
    rcases h with h | h <;> cases h
    exact hP.byte s _ a v hs (.inr hw)

theorem Kept.pop {s : State} {k : Word × State → Act State} (hs : P s)
    (hk : ∀ v t, P t → ∀ u, (k (v, t)).endsIn u → P u) : ∀ u, (s.pop16 >>= k).endsIn u → P u := by
  intro u h
  simp only [State.pop16] at h
  cases hr : s.readWord s.regs.sp with
  | ok v =>
    rw [hr] at h
    exact hk v _ (hP.setSp s _ hs) u h
  | error t =>
    obtain ⟨k, rfl⟩ := State.readWord_error hr
    rw [hr] at h
    rcases h with h | h <;> cases h
    exact hP.raise s _ hs

theorem Kept.push {s : State} {v : Word} (hs : P s) : ∀ u, (s.push16 v).endsIn u → P u :=
  fun _ h => State.push16_keeps (fun s v h => hP.setSp s v h) hP.byte hs h

theorem Kept.pushThen {s : State} {v : Word} {k : State → Act State} (hs : P s)
    (hk : ∀ t, P t → ∀ u, (k t).endsIn u → P u) : ∀ u, (s.push16 v >>= k).endsIn u → P u := by
  intro u h
  cases hw : s.push16 v with
  | ok t =>
    rw [hw] at h
    exact hk t (hP.push hs t (.inl hw)) u h
  | error t =>
    rw [hw] at h
    rcases h with h | h <;> cases h
    exact hP.push hs _ (.inr hw)

omit hP in
theorem endsIn_ok {s u : State} (h : Act.endsIn (.ok s) u) : u = s := by
  rcases h with h | h <;> cases h
  rfl

theorem Kept.callTo {s : State} {target : Word} (hs : P s) : ∀ u, (s.callTo target).endsIn u → P u :=
  hP.pushThen hs fun t ht _ h => endsIn_ok h ▸ hP.setPc t _ ht

theorem Kept.returnFromCall {s : State} (hs : P s) : ∀ u, s.returnFromCall.endsIn u → P u :=
  hP.pop hs fun _ t ht _ h => endsIn_ok h ▸ hP.setPc t _ ht

theorem Kept.returnFromInterrupt {s : State} (hs : P s) : ∀ u, s.returnFromInterrupt.endsIn u → P u :=
  hP.pop hs fun _ t ht _ h => endsIn_ok h ▸ hP.setIme _ _ (hP.setPc t _ ht)

theorem Kept.dispatch {s : State} {i : Fin 5} (hs : P s) : ∀ u, (s.dispatch i).endsIn u → P u :=
  hP.pushThen (hP.setIme s _ hs) fun t ht _ h => endsIn_ok h ▸ hP.setPc t _ ht

/-- Every CB operation of a byte. -/
theorem Kept.cbPage {op2 : Byte} {s t : State} (hs : P s) (h : cbPage op2 s = .next t) : P t := by
  simp only [Machine.cbPage] at h
  split at h
  · rename_i r _
    split_ifs at h
    · exact hP.finish (by decide) (hP.setFlags _ _ _ _ _ (hP.setReg _ _ _ hs)) h
    · exact hP.finish (by decide) (hP.setFlags _ _ _ _ _ hs) h
    · exact hP.finish (by decide) (hP.setReg _ _ _ hs) h
    · exact hP.finish (by decide) (hP.setReg _ _ _ hs) h
  · split_ifs at h
    · exact hP.perform (by decide) (hP.read hs fun v => hP.write hs fun t ht u h =>
        endsIn_ok h ▸ hP.setFlags _ _ _ _ _ ht) h
    · exact hP.perform (by decide) (hP.read hs fun v u h => endsIn_ok h ▸ hP.setFlags _ _ _ _ _ hs) h
    · exact hP.perform (by decide) (hP.read hs fun v u h => hP.byte _ _ _ _ hs h) h
    · exact hP.perform (by decide) (hP.read hs fun v u h => hP.byte _ _ _ _ hs h) h

/-- Whatever the kinds of change keep, every form keeps. -/
theorem Kept.execForm (f : Form) {s t : State} (hs : P s) (h : execForm f s = .next t) : P t := by
  cases f with
  | ldRegReg d r => exact hP.finish (by decide) (hP.setReg _ _ _ hs) h
  | ldRegImm d n8 => exact hP.finish (by decide) (hP.setReg _ _ _ hs) h
  | ldRegAtHL d => exact hP.perform (by decide) (hP.read hs fun v u h => endsIn_ok h ▸ hP.setReg _ _ _ hs) h
  | ldAtHLReg r => exact hP.perform (by decide) (fun u h => hP.byte _ _ _ _ hs h) h
  | ldAtHLImm n8 => exact hP.perform (by decide) (fun u h => hP.byte _ _ _ _ hs h) h
  | ldAAtPair p => exact hP.perform (by decide) (hP.read hs fun v u h => endsIn_ok h ▸ hP.setReg _ _ _ hs) h
  | ldAtPairA p => exact hP.perform (by decide) (fun u h => hP.byte _ _ _ _ hs h) h
  | ldAAtImm n16 => exact hP.perform (by decide) (hP.read hs fun v u h => endsIn_ok h ▸ hP.setReg _ _ _ hs) h
  | ldAtImmA n16 => exact hP.perform (by decide) (fun u h => hP.byte _ _ _ _ hs h) h
  | ldhAAtImm n8 => exact hP.perform (by decide) (hP.read hs fun v u h => endsIn_ok h ▸ hP.setReg _ _ _ hs) h
  | ldhAtImmA n8 => exact hP.perform (by decide) (fun u h => hP.byte _ _ _ _ hs h) h
  | ldAAtC => exact hP.perform (by decide) (hP.read hs fun v u h => endsIn_ok h ▸ hP.setReg _ _ _ hs) h
  | ldAtCA => exact hP.perform (by decide) (fun u h => hP.byte _ _ _ _ hs h) h
  | ldAtHLincA | ldAtHLdecA =>
    exact hP.perform (by decide) (hP.write hs fun t ht _ h => endsIn_ok h ▸ hP.setPair _ _ _ ht) h
  | ldAAtHLinc | ldAAtHLdec =>
    exact hP.perform (by decide) (hP.read hs fun v u h => endsIn_ok h ▸ hP.setPair _ _ _ (hP.setReg _ _ _ hs)) h
  | ldPairImm rr n16 => exact hP.finish (by decide) (hP.setPair _ _ _ hs) h
  | ldAtImmSP n16 => exact hP.perform (by decide) (fun u h => State.writeWord_keeps hP.byte hs h) h
  | ldSPHL => exact hP.finish (by decide) (hP.setSp _ _ hs) h
  | ldHLSPe8 e8 => exact hP.finish (by decide) (hP.setFlags _ _ _ _ _ (hP.setPair _ _ _ hs)) h
  | push qq => exact hP.perform (by decide) (hP.push hs) h
  | pop qq =>
    exact hP.perform (by decide) (hP.pop (k := fun x => .ok (x.2.setPair qq x.1)) hs fun v t ht u h =>
      endsIn_ok h ▸ hP.setPair _ _ _ ht) h
  | aluReg op r => exact hP.finish (by decide) (hP.alu _ _ _ hs) h
  | aluAtHL op => exact hP.perform (by decide) (hP.read hs fun v u h => endsIn_ok h ▸ hP.alu _ _ _ hs) h
  | aluImm op n8 => exact hP.finish (by decide) (hP.alu _ _ _ hs) h
  | incReg r | decReg r => exact hP.finish (by decide) (hP.setFlags _ _ _ _ _ (hP.setReg _ _ _ hs)) h
  | incAtHL | decAtHL =>
    exact hP.perform (by decide) (hP.read hs fun v => hP.write hs fun t ht u h =>
      endsIn_ok h ▸ hP.setFlags _ _ _ _ _ ht) h
  | daa | cpl => exact hP.finish (by decide) (hP.setFlags _ _ _ _ _ (hP.setReg _ _ _ hs)) h
  | scf | ccf => exact hP.finish (by decide) (hP.setFlags _ _ _ _ _ hs) h
  | addHLPair rr => exact hP.finish (by decide) (hP.setFlags _ _ _ _ _ (hP.setPair _ _ _ hs)) h
  | incPair rr | decPair rr => exact hP.finish (by decide) (hP.setPair _ _ _ hs) h
  | addSPe8 e8 => exact hP.finish (by decide) (hP.setFlags _ _ _ _ _ (hP.setSp _ _ hs)) h
  | rotA op => exact hP.finish (by decide) (hP.setFlags _ _ _ _ _ (hP.setReg _ _ _ hs)) h
  | shiftReg op r => exact hP.finish (by decide) (hP.setFlags _ _ _ _ _ (hP.setReg _ _ _ hs)) h
  | shiftAtHL op =>
    exact hP.perform (by decide) (hP.read hs fun v => hP.write hs fun t ht u h =>
      endsIn_ok h ▸ hP.setFlags _ _ _ _ _ ht) h
  | bitReg b r => exact hP.finish (by decide) (hP.setFlags _ _ _ _ _ hs) h
  | bitAtHL b => exact hP.perform (by decide) (hP.read hs fun v u h => endsIn_ok h ▸ hP.setFlags _ _ _ _ _ hs) h
  | resReg b r | setReg b r => exact hP.finish (by decide) (hP.setReg _ _ _ hs) h
  | resAtHL b | setAtHL b => exact hP.perform (by decide) (hP.read hs fun v u h => hP.byte _ _ _ _ hs h) h
  | jp n16 => exact hP.finish (by decide) (hP.setPc _ _ hs) h
  | jpCond cc n16 =>
    simp only [Machine.execForm, Machine.jpCond] at h
    split at h
    · exact hP.finish (by decide) (hP.setPc _ _ hs) h
    · exact hP.finish (by decide) hs h
  | jpHL => exact hP.finish (by decide) (hP.setPc _ _ hs) h
  | jr e8 => exact hP.finish (by decide) (hP.setPc _ _ hs) h
  | jrCond cc e8 =>
    simp only [Machine.execForm, Machine.jrCond] at h
    split at h
    · exact hP.finish (by decide) (hP.setPc _ _ hs) h
    · exact hP.finish (by decide) hs h
  | call n16 => exact hP.perform (by decide) (hP.callTo hs) h
  | callCond cc n16 =>
    simp only [Machine.execForm, Machine.callCond] at h
    split at h
    · exact hP.perform (by decide) (hP.callTo hs) h
    · exact hP.finish (by decide) hs h
  | ret => exact hP.perform (by decide) (hP.returnFromCall hs) h
  | retCond cc =>
    simp only [Machine.execForm, Machine.retCond] at h
    split at h
    · exact hP.perform (by decide) (hP.returnFromCall hs) h
    · exact hP.finish (by decide) hs h
  | reti => exact hP.perform (by decide) (hP.returnFromInterrupt hs) h
  | rst t => exact hP.perform (by decide) (hP.callTo hs) h
  | nop => exact hP.finish (by decide) hs h
  | halt => exact hP.finish (by decide) (hP.switches _ _ _ _ _ hs) h
  | stop n8 => exact hP.finish (by decide) hs h
  | di | ei => exact hP.finish (by decide) (hP.switches _ _ _ _ _ hs) h
  | prefixCb op2 => exact hP.cbPage hs h
  | illegal op =>
    cases h
    exact hP.raise _ _ hs

/-- Whatever the kinds of change keep, every instruction keeps. -/
theorem Kept.exec (i : Instr) {s t : State} (hs : P s) (h : exec i s = .next t) : P t :=
  hP.execForm i.form hs (by rw [← exec_eq_execForm, h])

/-- One fetched byte. -/
theorem Kept.fetch8 {s : State} (hs : P s) :
    (∀ v t, s.fetch8 = .ok (v, t) → P t) ∧ ∀ t, s.fetch8 = .error t → P t := by
  simp only [State.fetch8]
  cases hr : s.busRead s.regs.pc with
  | some v =>
    rw [State.readByte_ok hr]
    refine ⟨fun w t h => ?_, fun t h => (nomatch h)⟩
    cases h
    exact hP.setPc s _ hs
  | none =>
    rw [State.readByte_declined hr]
    refine ⟨fun w t h => (nomatch h), fun t h => ?_⟩
    cases h
    exact hP.raise s _ hs

/-- A whole fetch. -/
theorem Kept.fetch {s : State} (hs : P s) :
    (∀ i t, s.fetch = .ok (i, t) → P t) ∧ ∀ t, s.fetch = .error t → P t := by
  simp only [State.fetch]
  cases h0 : s.fetch8 with
  | error t =>
    refine ⟨fun i u h => (nomatch h), fun u h => ?_⟩
    cases h
    exact (hP.fetch8 hs).2 _ h0
  | ok p0 =>
    obtain ⟨op, s0⟩ := p0
    have hs0 := (hP.fetch8 hs).1 _ _ h0
    simp only [bind, Except.bind, pure, Except.pure]
    split
    · refine ⟨fun i u h => ?_, fun u h => (nomatch h)⟩
      cases h
      exact hs0
    · cases h1 : s0.fetch8 with
      | error t =>
        refine ⟨fun i u h => (nomatch h), fun u h => ?_⟩
        cases h
        exact (hP.fetch8 hs0).2 _ h1
      | ok p1 =>
        obtain ⟨b1, s1⟩ := p1
        have hs1 := (hP.fetch8 hs0).1 _ _ h1
        dsimp only
        split
        · refine ⟨fun i u h => ?_, fun u h => (nomatch h)⟩
          cases h
          exact hs1
        · cases h2 : s1.fetch8 with
          | error t =>
            refine ⟨fun i u h => (nomatch h), fun u h => ?_⟩
            cases h
            exact (hP.fetch8 hs1).2 _ h2
          | ok p2 =>
            obtain ⟨b2, s2⟩ := p2
            refine ⟨fun i u h => ?_, fun u h => (nomatch h)⟩
            cases h
            exact (hP.fetch8 hs1).1 _ _ h2

omit hP

/-- Every form answers a next state. -/
theorem execForm_answers (f : Form) (s : State) : ∃ t, execForm f s = .next t := by
  cases f
  case jpCond cc n16 =>
    show ∃ t, jpCond cc n16 s = .next t
    unfold jpCond
    split <;> exact ⟨_, rfl⟩
  case jrCond cc e8 =>
    show ∃ t, jrCond cc e8 s = .next t
    unfold jrCond
    split <;> exact ⟨_, rfl⟩
  case callCond cc n16 =>
    show ∃ t, callCond cc n16 s = .next t
    unfold callCond
    split
    · exact perform_answers _ _
    · exact ⟨_, rfl⟩
  case retCond cc =>
    show ∃ t, retCond cc s = .next t
    unfold retCond
    split
    · exact perform_answers _ _
    · exact ⟨_, rfl⟩
  case prefixCb op2 =>
    show ∃ t, cbPage op2 s = .next t
    unfold cbPage
    dsimp only
    split <;> split_ifs <;> first | exact ⟨_, rfl⟩ | exact perform_answers _ _
  all_goals first | exact ⟨_, rfl⟩ | exact perform_answers _ _

/-- Every instruction answers a next state: `exec` neither faults nor refuses. -/
theorem exec_answers (i : Instr) (s : State) : ∃ t, exec i s = .next t := by
  rw [exec_eq_execForm]
  exact execForm_answers _ _

end Sys2Proof.Machine
end

