-- ==== Sys2Proof/Laws/Fetch.lean ====
section
/-! SUPPORT. What fetch gives: the instruction that the bytes at PC decode to, with PC moved past them (R145). -/

namespace Sys2Proof.Machine

theorem State.fetch8_ok {s : State} {v : Byte} (h : s.busRead s.regs.pc = some v) :
    s.fetch8 = .ok (v, s.setPc (s.regs.pc + 1)) := by
  simp only [State.fetch8, State.readByte_ok h]
  rfl

/-- The next byte after n fetched ones. -/
theorem State.fetch8_at {s : State} {v : Byte} {a : Word} (h : s.busRead a = some v) :
    (s.setPc a).fetch8 = .ok (v, s.setPc (a + 1)) := State.fetch8_ok (s := s.setPc a) h

theorem State.fetch_one {s : State} {op : Byte} (h0 : s.busRead s.regs.pc = some op) (hl : instrLength op = 1) :
    s.fetch = .ok (decodeBytes op 0 0, s.setPc (s.regs.pc + 1)) := by
  simp only [State.fetch, State.fetch8_ok h0, bind, Except.bind]
  rw [if_pos hl]
  rfl

theorem State.fetch_two {s : State} {op b1 : Byte} (h0 : s.busRead s.regs.pc = some op)
    (h1 : s.busRead (s.regs.pc + 1) = some b1) (hl : instrLength op = 2) :
    s.fetch = .ok (decodeBytes op b1 0, s.setPc (s.regs.pc + 1 + 1)) := by
  simp only [State.fetch, State.fetch8_ok h0, bind, Except.bind]
  rw [if_neg (by omega), State.fetch8_at h1]
  simp only
  rw [if_pos hl]
  rfl

theorem State.fetch_three {s : State} {op b1 b2 : Byte} (h0 : s.busRead s.regs.pc = some op)
    (h1 : s.busRead (s.regs.pc + 1) = some b1) (h2 : s.busRead (s.regs.pc + 1 + 1) = some b2) (hl1 : instrLength op ≠ 1)
    (hl2 : instrLength op ≠ 2) : s.fetch = .ok (decodeBytes op b1 b2, s.setPc (s.regs.pc + 1 + 1 + 1)) := by
  simp only [State.fetch, State.fetch8_ok h0, bind, Except.bind]
  rw [if_neg hl1, State.fetch8_at h1]
  simp only
  rw [if_neg hl2, State.fetch8_at h2]
  rfl

/-- R12, R101: where the cartridge declines the byte at PC, a fetch of it ends in the fatal state, with PC at that byte. -/
theorem State.fetch8_declined {s : State} (h : s.busRead s.regs.pc = none) :
    s.fetch8 = .error (s.raise (.unmappedAccess s.regs.pc .read)) := by
  simp only [State.fetch8, State.readByte_declined h]
  rfl

theorem State.fetch8_declined_at {s : State} {a : Word} (h : s.busRead a = none) :
    (s.setPc a).fetch8 = .error ((s.setPc a).raise (.unmappedAccess a .read)) := State.fetch8_declined (s := s.setPc a) h

theorem State.fetch_declined_one {s : State} (h0 : s.busRead s.regs.pc = none) :
    s.fetch = .error (s.raise (.unmappedAccess s.regs.pc .read)) := by
  simp only [State.fetch, State.fetch8_declined h0, bind, Except.bind]

theorem State.fetch_declined_two {s : State} {op : Byte} (h0 : s.busRead s.regs.pc = some op)
    (h1 : s.busRead (s.regs.pc + 1) = none) (hl : instrLength op ≠ 1) :
    s.fetch = .error ((s.setPc (s.regs.pc + 1)).raise (.unmappedAccess (s.regs.pc + 1) .read)) := by
  simp only [State.fetch, State.fetch8_ok h0, bind, Except.bind]
  rw [if_neg hl, State.fetch8_declined_at h1]

theorem State.fetch_declined_three {s : State} {op b1 : Byte} (h0 : s.busRead s.regs.pc = some op)
    (h1 : s.busRead (s.regs.pc + 1) = some b1) (h2 : s.busRead (s.regs.pc + 1 + 1) = none) (hl1 : instrLength op ≠ 1)
    (hl2 : instrLength op ≠ 2) :
    s.fetch = .error ((s.setPc (s.regs.pc + 1 + 1)).raise (.unmappedAccess (s.regs.pc + 1 + 1) .read)) := by
  simp only [State.fetch, State.fetch8_ok h0, bind, Except.bind]
  rw [if_neg hl1, State.fetch8_at h1]
  simp only
  rw [if_neg hl2, State.fetch8_declined_at h2]

/-- The bytes at PC, from the first on. -/
theorem State.busRead_first {s : State} {op : Byte} {rest : List Byte}
    (hb : ∀ k (h : k < (op :: rest).length), s.busRead (s.regs.pc + BitVec.ofNat 16 k) = some (op :: rest)[k]) :
    s.busRead s.regs.pc = some op := by
  have := hb 0 (by simp)
  rwa [show s.regs.pc + BitVec.ofNat 16 0 = s.regs.pc from BitVec.add_zero _] at this

/-- R12, R101: where bytes that are not yet an instruction read and the cartridge declines the next one, fetch ends in the
fatal state with that address, PC past the bytes fetched. -/
theorem State.fetch_declined {s : State} {bytes : List Byte} {e : DecodeError} (hd : decode bytes = .error e)
    (hb : ∀ k (h : k < bytes.length), s.busRead (s.regs.pc + BitVec.ofNat 16 k) = some bytes[k])
    (hn : s.busRead (s.regs.pc + BitVec.ofNat 16 bytes.length) = none) :
    s.fetch = .error ((s.setPc (s.regs.pc + BitVec.ofNat 16 bytes.length)).raise
      (.unmappedAccess (s.regs.pc + BitVec.ofNat 16 bytes.length) .read)) := by
  have e2 : s.regs.pc + 1 + 1 = s.regs.pc + BitVec.ofNat 16 2 := BitVec.add_assoc _ _ _
  match bytes, hd with
  | [], _ =>
    have e0 : s.regs.pc + BitVec.ofNat 16 ([] : List Byte).length = s.regs.pc := BitVec.add_zero _
    rw [e0] at hn ⊢
    exact State.fetch_declined_one hn
  | [op], hd =>
    simp only [decode] at hd
    split at hd
    · cases hd
    · exact State.fetch_declined_two (State.busRead_first hb) hn ‹_›
  | [op, b1], hd =>
    simp only [decode] at hd
    split at hd
    · cases hd
    · split at hd
      · cases hd
      · rw [show BitVec.ofNat 16 [op, b1].length = BitVec.ofNat 16 2 from rfl, ← e2] at hn ⊢
        exact State.fetch_declined_three (State.busRead_first hb) (hb 1 (by simp)) hn ‹_› ‹_›
  | op :: b1 :: b2 :: rest, hd =>
    simp only [decode] at hd
    split at hd
    · cases hd
    · split at hd <;> cases hd

/-- R145: where the bytes at PC are exactly one instruction, fetch gives it and leaves PC past them. -/
theorem State.fetch_ok {s : State} {bytes : List Byte} {i : Instr} (hd : decode bytes = .ok (i, []))
    (hb : ∀ k (h : k < bytes.length), s.busRead (s.regs.pc + BitVec.ofNat 16 k) = some bytes[k]) :
    s.fetch = .ok (i, s.setPc (s.regs.pc + BitVec.ofNat 16 bytes.length)) := by
  have e2 : s.regs.pc + 1 + 1 = s.regs.pc + BitVec.ofNat 16 2 := BitVec.add_assoc _ _ _
  match bytes, hd with
  | [], hd => cases hd
  | [op], hd =>
    simp only [decode] at hd
    split at hd
    · cases hd
      exact State.fetch_one (State.busRead_first hb) ‹_›
    · cases hd
  | [op, b1], hd =>
    simp only [decode] at hd
    split at hd
    · cases hd
    · split at hd
      · cases hd
        rw [State.fetch_two (State.busRead_first hb) (hb 1 (by simp)) ‹_›, e2]
        rfl
      · cases hd
  | op :: b1 :: b2 :: rest, hd =>
    simp only [decode] at hd
    split at hd
    · cases hd
    · split at hd
      · cases hd
      · simp only [Except.ok.injEq, Prod.mk.injEq] at hd
        obtain ⟨rfl, rfl⟩ := hd
        rw [State.fetch_three (State.busRead_first hb) (hb 1 (by simp)) (by rw [e2]; exact hb 2 (by simp)) ‹_› ‹_›, e2]
        rw [BitVec.add_assoc]
        rfl

end Sys2Proof.Machine
end

