-- ==== Sys2Proof/Laws/Render.lean ====
section
/-! SUPPORT. What the renderer draws: its bit fields in arithmetic, the layers below, what one sprite puts at a column,
and the first selected sprite that puts a shade. -/

namespace Sys2Proof.Machine

/-- A bit of a byte in arithmetic. -/
theorem toNat_getLsbD (v : Byte) (i : Nat) : (v.getLsbD i).toNat = v.toNat / 2 ^ i % 2 := by
  rw [BitVec.getLsbD, Nat.toNat_testBit]

theorem getLsbD_iff (v : Byte) (i : Nat) : v.getLsbD i = true ↔ v.toNat / 2 ^ i % 2 = 1 := by
  rw [← Bool.toNat_eq_one, toNat_getLsbD]

/-- R419 `pix` -/
theorem State.pix_toNat (s : State) (base r c : Nat) : (s.pix base r c).toNat = s.tileIndex base r c := by
  unfold State.pix State.tileIndex State.vram
  dsimp only
  rw [← toNat_getLsbD, ← toNat_getLsbD]
  generalize (s.mem.read (base + 2 * r + 1)).getLsbD (7 - c) = hi
  generalize (s.mem.read (base + 2 * r)).getLsbD (7 - c) = lo
  cases hi <;> cases lo <;> rfl

/-- R425 -/
theorem shadeOf_toNat (p : Byte) (ci : Shade) : (shadeOf p ci).toNat = paletteShade p ci.toNat := by
  unfold shadeOf paletteShade
  rw [BitVec.extractLsb'_toNat, Nat.shiftRight_eq_div_pow, Nat.pow_mul]

/-- R419 `tile_base` -/
theorem tileBase_eq (t : Byte) (unsigned : Bool) :
    tileBase t unsigned = (if unsigned = true ∨ 128 ≤ t.toNat then 0x8000 else 0x9000) + 16 * t.toNat := by
  unfold tileBase
  cases unsigned
  · by_cases h : t.toNat < 128
    · rw [if_neg Bool.false_ne_true, if_pos h, if_neg (by simp; omega)]
    · rw [if_neg Bool.false_ne_true, if_neg h, if_pos (.inr (by omega))]
      omega
  · rfl

/-- R420, R421 -/
theorem State.mapPixel_toNat (s : State) (map x y : Nat) : (s.mapPixel map x y).toNat = s.mapIndex map x y := by
  unfold State.mapPixel State.mapIndex
  rw [s.pix_toNat, tileBase_eq]
  rfl

/-- R418 `bgi` -/
theorem State.underIndex_toNat (s : State) (ly x : Nat) : (s.underIndex ly x).toNat = s.layerIndex ly x := by
  unfold State.underIndex State.layerIndex State.windowIndex State.backgroundIndex Display.windowCovers
    Display.backgroundOn Display.lcdcBit mapBase
  dsimp only
  cases s.lcd.lcdc.getLsbD 0 <;> cases s.lcd.lcdc.getLsbD 5
  case true.true =>
    simp only [Bool.true_and, Bool.and_eq_true, decide_eq_true_eq, true_and, reduceIte, Bool.true_eq_false]
    split <;> exact s.mapPixel_toNat _ _ _
  case true.false => exact s.mapPixel_toNat _ _ _
  all_goals rfl

/-- R420, R421, R425 -/
theorem State.underShade_toNat (s : State) (ly x : Nat) :
    (s.underShade ly x).toNat = if s.lcd.lcdc.getLsbD 0 then paletteShade s.lcd.bgp (s.layerIndex ly x) else 0 := by
  unfold State.underShade
  rw [← s.underIndex_toNat, ← shadeOf_toNat]
  show _ = if s.lcd.backgroundOn = true then _ else _
  split <;> rfl

/-- R424: 8 × 16 sprites ignore bit 0 of the tile number. -/
theorem toNat_clearLowBit (v : Byte) : (v &&& 0xFE).toNat = v.toNat / 2 * 2 := by
  revert v
  decide +kernel

/-- R424: a sprite's colour index. -/
theorem State.spriteIndex_toNat (s : State) (ly k col : Nat) : (s.spriteIndex ly k col).toNat = s.spriteDot ly k col := by
  have e6 := getLsbD_iff (s.mem.read (0xFE00 + 4 * k + 3)) 6
  have e5 := getLsbD_iff (s.mem.read (0xFE00 + 4 * k + 3)) 5
  unfold State.spriteIndex State.spriteRow State.spriteTile Display.spriteHeight Display.lcdcBit State.spriteDot State.oam oamBase
  dsimp only
  rw [s.pix_toNat, tileBase_eq, if_pos (.inl rfl)]
  simp only [e6, e5]
  cases s.lcd.lcdc.getLsbD 2
  · rfl
  · simp only [reduceIte, toNat_clearLowBit]
    rfl

/-- R424: what a sprite draws over a shade. -/
theorem State.drawSprite_toNat (s : State) (ly x k : Nat) (shade : Shade) :
    (s.drawSprite ly x shade k).toNat = (s.spriteShade ly x k).getD shade.toNat := by
  have hzero (ci : Shade) : ci = 0 ↔ ci.toNat = 0 := BitVec.toNat_inj.symm
  have e7 : (s.oam k 3).getLsbD 7 = true ↔ (s.oam k 3).toNat / 128 = 1 := by
    rw [getLsbD_iff]
    have : (s.oam k 3).toNat < 256 := BitVec.isLt _
    omega
  have epal : (if (s.oam k 3).getLsbD 4 then s.lcd.obp1 else s.lcd.obp0) =
      if (s.oam k 3).toNat / 16 % 2 = 1 then s.lcd.obp1 else s.lcd.obp0 := if_congr (getLsbD_iff _ 4) rfl rfl
  unfold State.drawSprite State.spriteColumn State.spriteShade
  rw [show s.mem.read (0xFE00 + 4 * k + 1) = s.oam k 1 from rfl, show s.mem.read (0xFE00 + 4 * k + 3) = s.oam k 3 from rfl,
    epal]
  dsimp only
  generalize (if (s.oam k 3).toNat / 16 % 2 = 1 then s.lcd.obp1 else s.lcd.obp0) = palette
  by_cases hx : (s.oam k 1).toNat ≤ x + 8 ∧ x < (s.oam k 1).toNat
  · rw [if_pos hx]
    simp only [hzero, s.spriteIndex_toNat, ne_eq, s.underIndex_toNat]
    by_cases hd : s.spriteDot ly k (x + 8 - (s.oam k 1).toNat) = 0
    · rw [if_pos hd, if_neg fun h => h.2.2.1 hd]
      rfl
    · by_cases hb : (s.oam k 3).toNat / 128 = 1 ∧ ¬s.layerIndex ly x = 0
      · rw [if_neg hd, if_pos ⟨e7.2 hb.1, hb.2⟩, if_neg fun h => h.2.2.2 hb]
        rfl
      · rw [if_neg hd, if_neg fun h => hb ⟨e7.1 h.1, h.2⟩, if_pos ⟨hx.1, hx.2, hd, hb⟩, shadeOf_toNat, s.spriteIndex_toNat]
        rfl
  · rw [if_neg hx, if_neg fun h => hx ⟨h.1, h.2.1⟩]
    rfl

/-- R424: drawing a list of entries from its last to its first, where none puts a shade. -/
theorem State.drawSprites_none (s : State) (ly x : Nat) (shade : Shade) (ks : List Nat)
    (h : ∀ k ∈ ks, s.spriteShade ly x k = none) : ks.reverse.foldl (s.drawSprite ly x) shade = shade := by
  induction ks with
  | nil => rfl
  | cons k ks ih =>
    rw [List.reverse_cons, List.foldl_append, ih fun j hj => h j (List.mem_cons_of_mem k hj)]
    apply BitVec.eq_of_toNat_eq
    show (s.drawSprite ly x shade k).toNat = _
    rw [s.drawSprite_toNat, h k List.mem_cons_self, Option.getD_none]

/-- R424: "earlier entries win overlaps": the first of the list that puts a shade gives the column. -/
theorem State.drawSprites_first (s : State) (ly x : Nat) (shade : Shade) (ks : List Nat) (hs : ks.Pairwise (· < ·))
    {k v : Nat} (hk : k ∈ ks) (hv : s.spriteShade ly x k = some v)
    (hfirst : ∀ j ∈ ks, j < k → s.spriteShade ly x j = none) : (ks.reverse.foldl (s.drawSprite ly x) shade).toNat = v := by
  induction ks with
  | nil => cases hk
  | cons j ks ih =>
    rw [List.reverse_cons, List.foldl_append]
    show (s.drawSprite ly x _ j).toNat = v
    rw [s.drawSprite_toNat]
    rcases List.mem_cons.1 hk with rfl | hk
    · rw [hv, Option.getD_some]
    · rw [hfirst j List.mem_cons_self ((List.pairwise_cons.1 hs).1 k hk), Option.getD_none]
      exact ih (List.pairwise_cons.1 hs).2 hk fun i hi => hfirst i (List.mem_cons_of_mem j hi)

/-- R423: the selection is in table order. -/
theorem State.selectSprites_ordered (s : State) (ly : Nat) : (s.selectSprites ly).Pairwise (· < ·) := by
  unfold State.selectSprites
  split
  · exact (List.pairwise_lt_range.filter _).take
  · exact .nil

end Sys2Proof.Machine
end

