-- ==== Sys2Proof/Tests/Slice0.lean ====
section
/-! SUPPORT. The model's own tests: the smoke test of WellFormed, words written out from the encodings, the vectors of
95_test_vectors (named after them), and for every obligation with hypotheses a state and operands that meet them. -/

namespace Sys2Proof.Tests

open Sys2Proof Sys2Proof.Machine

-- One theorem after another: the kernel evaluates most of them, and side by side they take a thread each.
set_option Elab.async false

/-- Whether a result is a next state with a property. -/
def after (r : Result) (p : State → Bool) : Bool :=
  match r with
  | .next s => p s
  | _ => false

/-- Whether a bus action completes in a state with a property. -/
def done (act : Act State) (p : State → Bool) : Bool :=
  match act with
  | .ok s => p s
  | .error _ => false

/-- The start state of 95_test_vectors: reset with the non-banked cartridge that holds the code at 0x0100. -/
def start (code : List Byte) : State := { State.reset with cart := .nonBanked (Memory.place [] 0x0100 code) }

def setRegs (f : Regs → Regs) (s : State) : State := { s with regs := f s.regs }
def setMem (m : Memory) (s : State) : State := { s with mem := m }
def setInts (f : Interrupts → Interrupts) (s : State) : State := { s with ints := f s.ints }
def setTimer (f : Timer → Timer) (s : State) : State := { s with timer := f s.timer }
def setLcd (f : Display → Display) (s : State) : State := { s with lcd := f s.lcd }

/-! ## WellFormed, decoding, encoding -/

/-- R145, R356: PREFIX CB alone is the second spelling of a CB instruction, so it is refused. -/
theorem test_wellFormed_refuses_prefixCb : (Instr.prefixCb 0x37).WellFormed = false := rfl

theorem test_wellFormed_admits_cb_row : Instr.swap_A.WellFormed = true := rfl

/- R131 to R142, one word or more a family, bit by bit. -/
theorem test_decode_ld_r_r : decode [0b01111000] = .ok (.ld_A_B, []) := rfl
theorem test_decode_ld_r_n8 : decode [0b00001110, 0x5A] = .ok (.ld_C_n8 0x5A, []) := rfl
theorem test_decode_ld_n16_A : decode [0xEA, 0x44, 0xFF] = .ok (.ld_atN16_A 0xFF44, []) := rfl
theorem test_decode_ld_HLdec_A : decode [0b00110010] = .ok (.ld_atHLdec_A, []) := rfl
theorem test_decode_ld_rr_n16 : decode [0b00110001, 0xFE, 0xFF, 0x76] = .ok (.ld_SP_n16 0xFFFE, [0x76]) := rfl
theorem test_decode_pop_AF : decode [0b11110001] = .ok (.pop_AF, []) := rfl
theorem test_decode_xor_atHL : decode [0b10101110] = .ok (.xor_atHL, []) := rfl
theorem test_decode_dec_D : decode [0b00010101] = .ok (.dec_D, []) := rfl
theorem test_decode_add_HL_DE : decode [0b00011001] = .ok (.add_HL_DE, []) := rfl
theorem test_decode_rra : decode [0b00011111] = .ok (.rra, []) := rfl
theorem test_decode_bit : decode [0xCB, 0b01100101] = .ok (.bit_4_L, []) := rfl
theorem test_decode_set_atHL : decode [0xCB, 0b11011110] = .ok (.set_3_atHL, []) := rfl
theorem test_decode_jr_C : decode [0b00111000, 0xFB] = .ok (.jr_C_e8 0xFB, []) := rfl
theorem test_decode_call_NZ : decode [0b11000100, 0x34, 0x12] = .ok (.call_NZ_n16 0x1234, []) := rfl
theorem test_decode_halt_not_ld_HL_HL : decode [0b01110110] = .ok (.halt, []) := rfl
theorem test_decode_illegal : decode [0xFD] = .ok (.illegal_FD, []) := rfl
theorem test_decode_truncated : decode [0xC3, 0x50] = .error (.truncated 0xC3) := rfl
theorem test_decode_empty : decode [] = .error .noBytes := rfl
theorem test_encode_jp : encode (.jp_n16 0x0150) = [0xC3, 0x50, 0x01] := rfl
theorem test_decodeTableWord_two_bytes : decodeTableWord 16 0xFE20 = some (.jr_NZ_e8 0xFE) := rfl

/-! ## Vectors of the instructions (95_test_vectors, V40 to V46): one step from 0x0100 -/

theorem test_V40_3_ld_L_atHL :
    after (step (start [0x6E] |> setRegs (fun r => { r with h := 0xC0, l := 0x00 }) |> setMem [(0xC000, 0x77)]))
      (fun t => t.regs.h == 0xC0 && t.regs.l == 0x77 && t.cost == 2) = true := by decide +kernel

theorem test_V40_8_ld_atDE_A_echo :
    after (step (start [0x12] |> setRegs (fun r => { r with d := 0xE0, e := 0x05, a := 0x3C })))
      (fun t => t.busRead 0xC005 == some 0x3C && t.busRead 0xE005 == some 0x3C && t.cost == 2) = true := by decide +kernel

theorem test_V40_12_ldh_A_IF :
    after (step (start [0xF0, 0x0F]))
      (fun t => t.regs.a == 0xE1 && t.regs.pc == 0x0102 && t.cost == 3) = true := by decide +kernel

theorem test_V40_13_ld_A_atC :
    after (step (start [0xF2] |> setRegs (fun r => { r with c := 0x07 }) |> setTimer (fun d => { d with tac := 5 })))
      (fun t => t.regs.a == 0xFD && t.cost == 2) = true := by decide +kernel

theorem test_V40_15_ld_HLinc_A_IE :
    after (step (start [0x22] |> setRegs (fun r => { r with h := 0xFF, l := 0xFF, a := 0xFF })))
      (fun t => t.ints.ie == 0x1F && t.regs.h == 0x00 && t.regs.l == 0x00 && t.cost == 2) = true := by decide +kernel

theorem test_V40_17_ld_A_HLinc_unusable :
    after (step (start [0x2A] |> setRegs (fun r => { r with h := 0xFE, l := 0xA0 })))
      (fun t => t.regs.a == 0xFF && t.regs.h == 0xFE && t.regs.l == 0xA1 && t.cost == 2) = true := by decide +kernel

theorem test_V41_3_ld_atN16_SP :
    after (step (start [0x08, 0x00, 0xC0] |> setRegs (fun r => { r with sp := 0xFFF8 })))
      (fun t => t.busRead 0xC000 == some 0xF8 && t.busRead 0xC001 == some 0xFF && t.cost == 5) = true := by decide +kernel

theorem test_V41_7_ld_HL_SP_minus1 :
    after (step (start [0xF8, 0xFF] |> setRegs (fun r => { r with sp := 0x01 })))
      (fun t => t.regs.h == 0x00 && t.regs.l == 0x00 && t.regs.f == 0x30 && t.regs.sp == 0x01 && t.cost == 3) = true := by decide +kernel

theorem test_V41_9_push_AF :
    after (step (start [0xF5] |> setRegs (fun r => { r with a := 0x12, f := 0xB0, sp := 0xD000 })))
      (fun t => t.regs.sp == 0xCFFE && t.busRead 0xCFFE == some 0xB0 && t.busRead 0xCFFF == some 0x12 && t.cost == 4) = true := by decide +kernel

theorem test_V41_10_pop_AF_low_nibble :
    after (step (start [0xF1] |> setRegs (fun r => { r with sp := 0xC000 }) |> setMem [(0xC000, 0xFF), (0xC001, 0x01)]))
      (fun t => t.regs.a == 0x01 && t.regs.f == 0xF0 && t.regs.sp == 0xC002 && t.cost == 3) = true := by decide +kernel

theorem test_V41_12_push_DE_wraps_to_IE :
    after (step (start [0xD5] |> setRegs (fun r => { r with d := 0xAB, e := 0xCD, sp := 0x01 })))
      (fun t => t.regs.sp == 0xFFFF && t.ints.ie == 0x0D && t.cost == 4) = true := by decide +kernel

theorem test_V42_5_add_atHL :
    after (step (start [0x86] |> setRegs (fun r => { r with a := 0x3C, h := 0xC0, l := 0x00 }) |> setMem [(0xC000, 0x12)]))
      (fun t => t.regs.a == 0x4E && t.regs.f == 0x00 && t.cost == 2) = true := by decide +kernel

theorem test_V42_9_adc_A_A :
    after (step (start [0x8F] |> setRegs (fun r => { r with a := 0x88, f := 0x10 })))
      (fun t => t.regs.a == 0x11 && t.regs.f == 0x30 && t.cost == 1) = true := by decide +kernel

theorem test_V42_12_sub_borrow :
    after (step (start [0xD6, 0x40] |> setRegs (fun r => { r with a := 0x3E })))
      (fun t => t.regs.a == 0xFE && t.regs.f == 0x50 && t.cost == 2) = true := by decide +kernel

theorem test_V42_15_sbc_A_A :
    after (step (start [0x9F] |> setRegs (fun r => { r with a := 0x42, f := 0x10 })))
      (fun t => t.regs.a == 0xFF && t.regs.f == 0x70 && t.cost == 1) = true := by decide +kernel

theorem test_V42_16_and_L :
    after (step (start [0xA5] |> setRegs (fun r => { r with a := 0x5A, l := 0x3F })))
      (fun t => t.regs.a == 0x1A && t.regs.f == 0x20 && t.cost == 1) = true := by decide +kernel

theorem test_V42_18_xor_A :
    after (step (start [0xAF] |> setRegs (fun r => { r with a := 0x5A, f := 0x70 })))
      (fun t => t.regs.a == 0x00 && t.regs.f == 0x80 && t.cost == 1) = true := by decide +kernel

theorem test_V42_20_or_atHL :
    after (step (start [0xB6] |> setRegs (fun r => { r with a := 0x5A, h := 0xC0, l := 0x00 }) |> setMem [(0xC000, 0x03)]))
      (fun t => t.regs.a == 0x5B && t.regs.f == 0x00 && t.cost == 2) = true := by decide +kernel

theorem test_V42_24_cp_atHL :
    after (step (start [0xBE] |> setRegs (fun r => { r with a := 0x3C, h := 0xC0, l := 0x00 }) |> setMem [(0xC000, 0x40)]))
      (fun t => t.regs.a == 0x3C && t.regs.f == 0x50 && t.cost == 2) = true := by decide +kernel

theorem test_V42_27_inc_atHL_keeps_C :
    after (step (start [0x34] |> setRegs (fun r => { r with h := 0xC0, l := 0x00, f := 0xF0 }) |> setMem [(0xC000, 0x50)]))
      (fun t => t.busRead 0xC000 == some 0x51 && t.regs.f == 0x10 && t.cost == 3) = true := by decide +kernel

theorem test_V42_29_dec_D_wraps :
    after (step (start [0x15] |> setRegs (fun r => { r with d := 0x00, f := 0x00 })))
      (fun t => t.regs.d == 0xFF && t.regs.f == 0x60 && t.cost == 1) = true := by decide +kernel

theorem test_V42_32_daa_carry :
    after (step (start [0x27] |> setRegs (fun r => { r with a := 0x9A, f := 0x00 })))
      (fun t => t.regs.a == 0x00 && t.regs.f == 0x90 && t.cost == 1) = true := by decide +kernel

theorem test_V42_35_daa_after_sub :
    after (step (start [0x27] |> setRegs (fun r => { r with a := 0x00, f := 0x50 })))
      (fun t => t.regs.a == 0xA0 && t.regs.f == 0x50 && t.cost == 1) = true := by decide +kernel

theorem test_V42_37_cpl :
    after (step (start [0x2F] |> setRegs (fun r => { r with a := 0x35, f := 0x90 })))
      (fun t => t.regs.a == 0xCA && t.regs.f == 0xF0 && t.cost == 1) = true := by decide +kernel

theorem test_V42_38_scf :
    after (step (start [0x37] |> setRegs (fun r => { r with f := 0xE0 })))
      (fun t => t.regs.f == 0x90 && t.cost == 1) = true := by decide +kernel

theorem test_V42_39_ccf :
    after (step (start [0x3F] |> setRegs (fun r => { r with f := 0x70 })))
      (fun t => t.regs.f == 0x00 && t.cost == 1) = true := by decide +kernel

theorem test_V43_2_add_HL_HL :
    after (step (start [0x29] |> setRegs (fun r => { r with h := 0x8A, l := 0x23, f := 0x80 })))
      (fun t => t.regs.h == 0x14 && t.regs.l == 0x46 && t.regs.f == 0xB0 && t.cost == 2) = true := by decide +kernel

theorem test_V43_6_dec_SP_wraps :
    after (step (start [0x3B] |> setRegs (fun r => { r with sp := 0x00, f := 0xF0 })))
      (fun t => t.regs.sp == 0xFFFF && t.regs.f == 0xF0 && t.cost == 2) = true := by decide +kernel

theorem test_V43_8_add_SP_minus8 :
    after (step (start [0xE8, 0xF8] |> setRegs (fun r => { r with sp := 0xFFF8, f := 0x80 })))
      (fun t => t.regs.sp == 0xFFF0 && t.regs.f == 0x30 && t.cost == 4) = true := by decide +kernel

theorem test_V44_2_rlca_clears_Z :
    after (step (start [0x07] |> setRegs (fun r => { r with a := 0x00, f := 0x80 })))
      (fun t => t.regs.a == 0x00 && t.regs.f == 0x00 && t.cost == 1) = true := by decide +kernel

theorem test_V44_5_rra :
    after (step (start [0x1F] |> setRegs (fun r => { r with a := 0x81, f := 0x00 })))
      (fun t => t.regs.a == 0x40 && t.regs.f == 0x10 && t.cost == 1) = true := by decide +kernel

theorem test_V44_8_rlc_atHL :
    after (step (start [0xCB, 0x06] |> setRegs (fun r => { r with h := 0xC0, l := 0x00 }) |> setMem [(0xC000, 0x80)]))
      (fun t => t.busRead 0xC000 == some 0x01 && t.regs.f == 0x10 && t.cost == 4) = true := by decide +kernel

theorem test_V44_14_rr_atHL :
    after (step (start [0xCB, 0x1E] |> setRegs (fun r => { r with h := 0xC0, l := 0x00, f := 0x10 }) |> setMem [(0xC000, 0x8A)]))
      (fun t => t.busRead 0xC000 == some 0xC5 && t.regs.f == 0x00 && t.cost == 4) = true := by decide +kernel

theorem test_V44_17_sra_A :
    after (step (start [0xCB, 0x2F] |> setRegs (fun r => { r with a := 0x8A, f := 0x00 })))
      (fun t => t.regs.a == 0xC5 && t.regs.f == 0x00 && t.cost == 2) = true := by decide +kernel

theorem test_V44_20_swap_atHL :
    after (step (start [0xCB, 0x36] |> setRegs (fun r => { r with h := 0xC0, l := 0x00, f := 0x10 }) |> setMem [(0xC000, 0xF0)]))
      (fun t => t.busRead 0xC000 == some 0x0F && t.regs.f == 0x00 && t.cost == 4) = true := by decide +kernel

theorem test_V44_23_bit_7_H :
    after (step (start [0xCB, 0x7C] |> setRegs (fun r => { r with h := 0x80, f := 0x50 })))
      (fun t => t.regs.h == 0x80 && t.regs.f == 0x30 && t.cost == 2) = true := by decide +kernel

theorem test_V44_27_res_0_atHL :
    after (step (start [0xCB, 0x86] |> setRegs (fun r => { r with h := 0xC0, l := 0x00, f := 0xF0 }) |> setMem [(0xC000, 0xFF)]))
      (fun t => t.busRead 0xC000 == some 0xFE && t.regs.f == 0xF0 && t.cost == 4) = true := by decide +kernel

theorem test_V44_28_set_3_B :
    after (step (start [0xCB, 0xD8] |> setRegs (fun r => { r with b := 0x00, f := 0x00 })))
      (fun t => t.regs.b == 0x08 && t.regs.f == 0x00 && t.cost == 2) = true := by decide +kernel

theorem test_V45_2_jp_NZ_untaken :
    after (step (start [0xC2, 0x00, 0x02] |> setRegs (fun r => { r with f := 0x80 })))
      (fun t => t.regs.pc == 0x0103 && t.cost == 3) = true := by decide +kernel

theorem test_V45_7_jr_minus128 :
    after (step (start [0x18, 0x80]))
      (fun t => t.regs.pc == 0x0082 && t.cost == 3) = true := by decide +kernel

theorem test_V45_10_jr_C_taken :
    after (step (start [0x38, 0xFB] |> setRegs (fun r => { r with f := 0x10 })))
      (fun t => t.regs.pc == 0x00FD && t.cost == 3) = true := by decide +kernel

theorem test_V45_11_call :
    after (step (start [0xCD, 0x34, 0x12]))
      (fun t => t.regs.pc == 0x1234 && t.regs.sp == 0xFFFC && t.busRead 0xFFFC == some 0x03 && t.busRead 0xFFFD == some 0x01 && t.cost == 6) = true := by decide +kernel

theorem test_V45_15_ret_C_taken :
    after (step (start [0xD8] |> setRegs (fun r => { r with f := 0x10, sp := 0xFFFC }) |> setMem [(0xFFFC, 0x03), (0xFFFD, 0x01)]))
      (fun t => t.regs.pc == 0x0103 && t.regs.sp == 0xFFFE && t.cost == 5) = true := by decide +kernel

theorem test_V45_17_reti :
    after (step (start [0xD9] |> setRegs (fun r => { r with sp := 0xFFFC }) |> setMem [(0xFFFC, 0x12), (0xFFFD, 0x01)]))
      (fun t => t.regs.pc == 0x0112 && t.ints.ime && t.regs.sp == 0xFFFE && t.cost == 4) = true := by decide +kernel

theorem test_V45_19_rst_08_rom_stack :
    after (step (start [0xCF] |> setRegs (fun r => { r with sp := 0xC000 })))
      (fun t => t.regs.pc == 0x0008 && t.regs.sp == 0xBFFE && t.busRead 0xBFFE == some 0xFF && t.cost == 4) = true := by decide +kernel

theorem test_V46_2_halt :
    after (step (start [0x76]))
      (fun t => t.regs.pc == 0x0101 && t.ints.halted && t.cost == 1) = true := by decide +kernel

theorem test_V46_3_stop :
    after (step (start [0x10, 0x00]))
      (fun t => t.regs.pc == 0x0102 && t.timer.div == 0xAB && t.cost == 1) = true := by decide +kernel

theorem test_V46_4_di :
    after (step (start [0xF3] |> setInts (fun c => { c with ime := true })))
      (fun t => t.ints.ime && t.ints.diDelay == 2 && t.cost == 1) = true := by decide +kernel

theorem test_V46_5_ei :
    after (step (start [0xFB]))
      (fun t => !t.ints.ime && t.ints.eiDelay == 2 && t.cost == 1) = true := by decide +kernel

theorem test_V46_7_illegal_D3 :
    after (step (start [0xD3]))
      (fun t => t.run == .fatal (.unimplementedOpcode 0xD3 false 0x0100) && t.lcd.modeClock == 0) = true := by decide +kernel

/-! ## Vectors of the bus and the devices (V20, V60) -/

theorem test_V20_2_echo : done (State.writeByte (start []) 0xFDFF 0x42) (fun t => t.busRead 0xDDFF == some 0x42) = true := by
  decide +kernel

theorem test_V20_7_joyp_right :
    done (State.writeByte { start [] with input := { Buttons.released with right := true, a := true } } 0xFF00 0x20)
      (fun t => t.busRead 0xFF00 == some 0xEE) = true := by decide +kernel

theorem test_V20_8_joyp_A :
    done (State.writeByte { start [] with input := { Buttons.released with right := true, a := true } } 0xFF00 0x10)
      (fun t => t.busRead 0xFF00 == some 0xDE) = true := by decide +kernel

/-- R472, D47: INPUT is free at every read. POP BC is fetched from 0xFF00, which reads 0xC1 with Left, Up and Down pressed,
and pops C from 0xFF00 as well, where the buttons are released by then (0xCF). -/
theorem test_R472_two_reads_in_one_step :
    after (step { start [] |> setRegs (fun r => { r with pc := 0xFF00, sp := 0xFF00 }) with
        joypSel := 0b00
        inputQueue := [{ Buttons.released with left := true, up := true, down := true }, Buttons.released] })
      (fun t => t.regs.c == 0xCF && t.regs.pc == 0xFF01 && t.inputQueue == []) = true := by decide +kernel

theorem test_V20_10_dma :
    done (State.writeByte (start [] |> setMem [(0xC001, 0x01), (0xC09F, 0x9F), (0xC0A0, 0x55)]) 0xFF46 0xC0)
      (fun t => t.busRead 0xFE01 == some 0x01 && t.busRead 0xFE9F == some 0x9F && t.busRead 0xFF46 == some 0xC0) = true := by
  decide +kernel

theorem test_V60_1_timer_overflow :
    (State.timerStep (start [] |> setTimer (fun d => { d with tima := 0xFF, tma := 0xAB, tac := 5 })) 16).timer.tima = 0xAB ∧
      (State.timerStep (start [] |> setTimer (fun d => { d with tima := 0xFF, tma := 0xAB, tac := 5 })) 16).ints.iflag = 0x05 := by
  decide +kernel

theorem test_V60_7_timer_disabled :
    (State.timerStep (start [] |> setTimer (fun d => { d with tima := 0x10, tac := 1 })) 1000).timer =
      { div := 0xAE, divAcc := 232, tima := 0x10, tma := 0, tac := 1, timaAcc := 0 } := by decide +kernel

theorem test_V60_12_tac_keeps_phase :
    done (State.writeByte (start [] |> setTimer (fun d => { d with tac := 4, timaAcc := 1000 })) 0xFF07 0x05)
      (fun t => t.timer.tac == 5 && t.timer.timaAcc == 8) = true := by decide +kernel

theorem test_V60_20_dispatch :
    after (step (start [] |> setInts (fun c => { c with ime := true, ie := 0x05, iflag := 0x05 })))
      (fun t => t.regs.pc == 0x0040 && t.regs.sp == 0xFFFC && t.busRead 0xFFFC == some 0x00 && t.busRead 0xFFFD == some 0x01 &&
        t.ints.iflag == 0x04 && !t.ints.ime && t.cost == 5) = true := by decide +kernel

theorem test_V60_25_halted_without_ime_dispatches :
    after (step (start [] |> setInts (fun c => { c with halted := true, ie := 0x04, iflag := 0x04 })))
      (fun t => t.regs.pc == 0x0050 && !t.ints.halted && t.ints.iflag == 0x00 && t.cost == 5) = true := by decide +kernel

theorem test_V60_30_di_takes_effect :
    after (step (start [0x00] |> setInts (fun c => { c with ime := true, diDelay := 1 })))
      (fun t => !t.ints.ime && t.ints.diDelay == 0 && t.regs.pc == 0x0101) = true := by decide +kernel

theorem test_V60_43_render_then_hblank :
    (State.displayStep (start []) 252).lcd.mode = .hblank ∧ (State.displayStep (start []) 252).lcd.modeClock = 0 := by
  decide +kernel

theorem test_V60_48_line_compare :
    (State.displayStep (start [] |> setInts (fun c => { c with iflag := 0 }) |>
        setLcd (fun d => { d with lyc := 1, statEn := 0b1000 })) 456).ints.iflag = 0x02 := by decide +kernel

theorem test_V60_56_stat_write :
    done (State.writeByte (start [] |> setLcd (fun d => { d with lyc := 5, statEn := 0b1111 })) 0xFF41 0x07)
      (fun t => t.busRead 0xFF41 == some 0x82) = true := by decide +kernel

theorem test_V60_61_palette :
    ((start [] |> setMem [(0x8000, 0x0F), (0x8001, 0x33)] |> setLcd (fun d => { d with bgp := 0xE4 })).renderRow 0).take 8 =
      [0, 0, 2, 2, 1, 1, 3, 3] := by decide +kernel

theorem test_V60_66_sprite_x_flip :
    ((start [] |> setMem [(0x8010, 0x80), (0xFE00, 0x10), (0xFE01, 0x08), (0xFE02, 0x01), (0xFE03, 0x20)] |>
        setLcd (fun d => { d with bgp := 0xE4, obp0 := 0xE4, lcdc := 0x93 })).renderRow 0).take 8 =
      [0, 0, 0, 0, 0, 0, 0, 1] := by decide +kernel

/-- V60.67 with index 3 for the sprite's pixel, so that drawing it would show. -/
theorem test_V60_67_sprite_behind_background :
    (start [] |> setMem [(0x8000, 0x80), (0x8010, 0x80), (0x8011, 0x80), (0xFE00, 0x10), (0xFE01, 0x08), (0xFE02, 0x01),
        (0xFE03, 0x80)] |> setLcd (fun d => { d with bgp := 0xE4, obp0 := 0xE4, lcdc := 0x93 })).renderPixel 0 0 = 1 := by
  decide +kernel

theorem test_V60_69_earlier_sprite_wins :
    (start [] |> setMem [(0x8010, 0x80), (0x8020, 0x80), (0x8021, 0x80), (0xFE00, 0x10), (0xFE01, 0x08), (0xFE02, 0x01),
        (0xFE04, 0x10), (0xFE05, 0x08), (0xFE06, 0x02)] |>
      setLcd (fun d => { d with bgp := 0xE4, obp0 := 0xE4, lcdc := 0x93 })).renderPixel 0 0 = 1 := by decide +kernel

theorem test_V60_71_window :
    [79, 80, 87, 88].map ((start [] |> setMem [(0x8010, 0xFF), (0x8011, 0xFF), (0x9800, 0x01)] |>
      setLcd (fun d => { d with bgp := 0xE4, lcdc := 0xB1, wx := 0x57, scy := 8 })).renderPixel 0) = [0, 3, 3, 0] := by
  decide +kernel

/-! ## withFetchWord -/

/-- The word placed at the pc of reset is the instruction the next step runs. -/
theorem test_withFetchWord_runs :
    after (step (State.reset.withFetchWord 24 0x1234CD)) (fun t => t.regs.pc == 0x1234 && t.cost == 6) = true := by
  decide +kernel

/-! ## Witnesses: a state and operands that meet the hypotheses of each obligation, a clause at a time -/

/-- HL, DE, BC and SP in work memory. -/
def inWram : State :=
  start [] |> setRegs (fun r => { r with h := 0xC0, l := 0x00, d := 0xC1, e := 0x00, b := 0xC2, c := 0x80, sp := 0xD000 })

/-- A cartridge that declines the addresses 0x0000 and 0x4000, with HL and SP there. -/
def declining : State :=
  { State.reset with cart := .other [0x0000, 0x4000] [] } |> setRegs (fun r => { r with h := 0x00, l := 0x00, sp := 0x0000 })

/-- The same with SP two bytes above a declined address. -/
def decliningPush : State := declining |> setRegs (fun r => { r with sp := 0x4002 })

/-- A pop whose second byte alone is declined. -/
def decliningPop : State := declining |> setRegs (fun r => { r with sp := 0xFFFF })

theorem witness_declined_read : declining.busRead (declining.pair .HL) = none ∧ declining.busRead declining.regs.sp = none := by
  decide +kernel

theorem witness_declined_write :
    declining.accepts (declining.pair .HL) 0x00 = false ∧ declining.accepts (declining.pair .HL) declining.regs.a = false := by
  decide +kernel

theorem witness_declined_push :
    ∃ t, (decliningPush.setSp (decliningPush.regs.sp - 2)).writeWord (decliningPush.regs.sp - 2) decliningPush.regs.pc = .error t :=
  ⟨_, rfl⟩

theorem witness_declined_pop :
    (∃ lo, decliningPop.busRead decliningPop.regs.sp = some lo) ∧ decliningPop.busRead (decliningPop.regs.sp + 1) = none := by
  exact ⟨⟨_, rfl⟩, rfl⟩

theorem witness_DecodeOfEncodeIsTheInstruction :
    (Instr.ld_BC_n16 0xFFFF).WellFormed = true ∧ Instr.nop.WellFormed = true ∧ Instr.set_7_A.WellFormed = true := by decide +kernel

theorem witness_RegisterLoads :
    Instr.ld_B_C.form = .ldRegReg .B .C ∧ Instr.ld_A_A.form = .ldRegReg .A .A ∧ (Instr.ld_L_n8 0xFF).form = .ldRegImm .L 0xFF ∧
      (Instr.ld_SP_n16 0).form = .ldPairImm .SP 0 ∧ (Instr.ld_HL_n16 0xFFFF).form = .ldPairImm .HL 0xFFFF ∧
      Instr.ld_SP_HL.form = .ldSPHL := by decide +kernel

theorem witness_LoadsFromMemory :
    (Instr.ld_H_atHL.form = .ldRegAtHL .H ∧ inWram.busRead (inWram.pair .HL) = some 0x00) ∧
      (Instr.ld_A_atBC.form = .ldAAtPair .BC ∧ inWram.busRead (inWram.pair .BC) = some 0x00) ∧
      ((Instr.ld_A_atN16 0xFFFF).form = .ldAAtImm 0xFFFF ∧ inWram.busRead 0xFFFF = some 0x00) ∧
      ((Instr.ldh_A_atN8 0xFF).form = .ldhAAtImm 0xFF ∧ inWram.busRead (0xFF00 + (0xFF#8).zeroExtend 16) = some 0x00) ∧
      (Instr.ld_A_atC.form = .ldAAtC ∧ inWram.busRead (0xFF00 + inWram.regs.c.zeroExtend 16) = some 0x00) ∧
      ((Instr.ld_A_atN16 0x4000).form = .ldAAtImm 0x4000 ∧ declining.busRead 0x4000 = none) := by decide +kernel

theorem witness_StoresToMemory :
    (Instr.ld_atHL_H.form = .ldAtHLReg .H ∧ inWram.accepts (inWram.pair .HL) (inWram.reg .H) = true) ∧
      ((Instr.ld_atHL_n8 0xFF).form = .ldAtHLImm 0xFF ∧ inWram.accepts (inWram.pair .HL) 0xFF = true) ∧
      (Instr.ld_atDE_A.form = .ldAtPairA .DE ∧ inWram.accepts (inWram.pair .DE) inWram.regs.a = true) ∧
      ((Instr.ld_atN16_A 0xFFFF).form = .ldAtImmA 0xFFFF ∧ inWram.accepts 0xFFFF inWram.regs.a = true) ∧
      ((Instr.ldh_atN8_A 0x46).form = .ldhAtImmA 0x46 ∧ inWram.accepts (0xFF00 + (0x46#8).zeroExtend 16) inWram.regs.a = true) ∧
      (Instr.ld_atC_A.form = .ldAtCA ∧ inWram.accepts (0xFF00 + inWram.regs.c.zeroExtend 16) inWram.regs.a = true) := by
  decide +kernel

theorem witness_LoadsAndStoresThatStepHL :
    Instr.ld_A_atHLinc.form = .ldAAtHLinc ∧ Instr.ld_A_atHLdec.form = .ldAAtHLdec ∧ Instr.ld_atHLinc_A.form = .ldAtHLincA ∧
      Instr.ld_atHLdec_A.form = .ldAtHLdecA ∧ inWram.busRead (inWram.pair .HL) = some 0x00 ∧
      inWram.accepts (inWram.pair .HL) inWram.regs.a = true := by decide +kernel

theorem witness_StackPointerPlusDisplacement :
    (Instr.ld_HL_SPplusE8 0x80).form = .ldHLSPe8 0x80 ∧ (Instr.add_SP_e8 0x7F).form = .addSPe8 0x7F := by decide +kernel

theorem witness_WordStores :
    ((Instr.ld_atN16_SP 0xFFFF).form = .ldAtImmSP 0xFFFF ∧ inWram.acceptsWord 0xFFFF inWram.regs.sp = true) ∧
      (Instr.push_AF.form = .push .AF ∧
        (inWram.setSp (inWram.regs.sp - 2)).acceptsWord (inWram.regs.sp - 2) (inWram.pair .AF) = true) ∧
      ∃ t, declining.writeWord 0x4000 declining.regs.sp = .error t := by
  exact ⟨by decide +kernel, by decide +kernel, ⟨_, rfl⟩⟩

theorem witness_PopLoadsThePair :
    Instr.pop_AF.form = .pop .AF ∧ Instr.pop_HL.form = .pop .HL ∧ inWram.busRead inWram.regs.sp = some 0x00 ∧
      inWram.busRead (inWram.regs.sp + 1) = some 0x00 := by decide +kernel

theorem witness_PopReturnsThePushedWord :
    Instr.push_BC.form = .push .BC ∧ Instr.pop_AF.form = .pop .AF ∧ Instr.pop_DE.form = .pop .DE ∧ inWram.mem.wf = true ∧
      storesBytes (inWram.regs.sp - 2) ∧ storesBytes (inWram.regs.sp - 1) := by
  refine ⟨rfl, rfl, rfl, rfl, ?_, ?_⟩ <;> (unfold storesBytes; decide +kernel)

theorem witness_AddAndAddWithCarry :
    aluOperand .add_A_B inWram .add 0xC2 1 ∧ aluOperand .adc_A_atHL inWram .adc 0x00 2 ∧
      aluOperand (.add_A_n8 0xFF) inWram .add 0xFF 2 ∧ Instr.adc_A_atHL.form = .aluAtHL .adc :=
  ⟨.inl ⟨.B, rfl, rfl, rfl⟩, .inr (.inl ⟨rfl, rfl, rfl⟩), .inr (.inr ⟨rfl, rfl⟩), rfl⟩

theorem witness_SubtractAndCompare :
    aluOperand .sub_A inWram .sub 0x01 1 ∧ aluOperand .sbc_A_atHL inWram .sbc 0x00 2 ∧
      aluOperand (.cp_n8 0xFF) inWram .cp 0xFF 2 ∧ Instr.cp_atHL.form = .aluAtHL .cp :=
  ⟨.inl ⟨.A, rfl, rfl, rfl⟩, .inr (.inl ⟨rfl, rfl, rfl⟩), .inr (.inr ⟨rfl, rfl⟩), rfl⟩

theorem witness_LogicOperations :
    aluOperand .and_L inWram .and 0x00 1 ∧ aluOperand .xor_atHL inWram .xor 0x00 2 ∧ aluOperand (.or_n8 0xFF) inWram .or 0xFF 2 ∧
      Instr.or_atHL.form = .aluAtHL .or :=
  ⟨.inl ⟨.L, rfl, rfl, rfl⟩, .inr (.inl ⟨rfl, rfl, rfl⟩), .inr (.inr ⟨rfl, rfl⟩), rfl⟩

theorem witness_IncrementAndDecrement :
    Instr.inc_B.form = .incReg .B ∧ Instr.dec_A.form = .decReg .A ∧ Instr.inc_atHL.form = .incAtHL ∧
      Instr.dec_atHL.form = .decAtHL ∧ inWram.busRead (inWram.pair .HL) = some 0x00 ∧
      inWram.accepts (inWram.pair .HL) (0x00 + 1) = true ∧ inWram.accepts (inWram.pair .HL) (0x00 - 1) = true := by
  decide +kernel

theorem witness_DecimalAdjust : Instr.daa.form = .daa := rfl

theorem witness_DecimalAdjustGivesTheDecimalSum :
    (99 < 100) ∧ (setRegs (fun r => { r with a := 0x99 }) inWram).regs.a = BitVec.ofNat 8 (16 * (99 / 10) + 99 % 10) ∧
      (Instr.add_A_n8 0x99).form = .aluImm .add (BitVec.ofNat 8 (16 * (99 / 10) + 99 % 10)) ∧ Instr.daa.form = .daa := by
  decide +kernel

theorem witness_FlagOperations : Instr.cpl.form = .cpl ∧ Instr.scf.form = .scf ∧ Instr.ccf.form = .ccf := by decide +kernel

theorem witness_SixteenBitArithmetic :
    Instr.add_HL_SP.form = .addHLPair .SP ∧ Instr.inc_DE.form = .incPair .DE ∧ Instr.dec_SP.form = .decPair .SP := by
  decide +kernel

theorem witness_RotatesAndShifts :
    Instr.rlca.form = .rotA .rlc ∧ Instr.rra.form = .rotA .rr ∧ Instr.swap_H.form = .shiftReg .swap .H ∧
      Instr.sra_atHL.form = .shiftAtHL .sra ∧ inWram.busRead (inWram.pair .HL) = some 0x00 ∧
      (0x00#8).toNat = (shiftByArithmetic .sra 0 inWram.flagC.toNat).1 ∧ inWram.accepts (inWram.pair .HL) 0x00 = true := by
  decide +kernel

theorem witness_BitOperations :
    Instr.bit_7_H.form = .bitReg 7 .H ∧ Instr.res_0_A.form = .resReg 0 .A ∧ Instr.set_3_B.form = .setReg 3 .B ∧
      Instr.bit_0_atHL.form = .bitAtHL 0 ∧ Instr.res_7_atHL.form = .resAtHL 7 ∧ Instr.set_0_atHL.form = .setAtHL 0 ∧
      inWram.busRead (inWram.pair .HL) = some 0x00 ∧
      (∀ k < 8, (0x01#8).getLsbD k = if k = (0 : Fin 8).val then true else (0x00#8).getLsbD k) ∧
      inWram.accepts (inWram.pair .HL) 0x01 = true := by decide +kernel

theorem witness_PrefixCbIsTheCbInstruction :
    (0x07#8).extractLsb' 0 3 ≠ 0b110 ∧ (0x46#8).extractLsb' 0 3 = 0b110 ∧ (inWram.busRead inWram.hl).isSome = true ∧
      ∀ w, inWram.accepts inWram.hl w = true :=
  ⟨by decide, by decide, by decide +kernel, fun _ => rfl⟩

theorem witness_JumpsGoToTheirTarget :
    (Instr.jp_n16 0xFFFF).form = .jp 0xFFFF ∧ (Instr.jp_NZ_n16 0).form = .jpCond .NZ 0 ∧ Instr.jp_HL.form = .jpHL ∧
      (Instr.jr_e8 0x80).form = .jr 0x80 ∧ (Instr.jr_C_e8 0x7F).form = .jrCond .C 0x7F := by decide +kernel

theorem witness_CallsPushTheReturnAddress :
    (Instr.call_n16 0x1234).form = .call 0x1234 ∧ (Instr.call_Z_n16 0x1234).form = .callCond .Z 0x1234 ∧
      (inWram.holds .Z = true ∧ inWram.holds .NZ = false ∧ (Instr.call_NZ_n16 0).form = .callCond .NZ 0) ∧
      Instr.rst_38.form = .rst 7 ∧ Instr.rst_00.form = .rst 0 ∧
      (inWram.setSp (inWram.regs.sp - 2)).acceptsWord (inWram.regs.sp - 2) inWram.regs.pc = true := by decide +kernel

theorem witness_ReturnsPopTheReturnAddress :
    Instr.ret.form = .ret ∧ Instr.ret_Z.form = .retCond .Z ∧ Instr.ret_NZ.form = .retCond .NZ ∧ Instr.reti.form = .reti ∧
      inWram.holds .Z = true ∧ inWram.holds .NZ = false ∧ inWram.busRead inWram.regs.sp = some 0x00 ∧
      inWram.busRead (inWram.regs.sp + 1) = some 0x00 := by decide +kernel

theorem witness_SystemInstructions :
    Instr.nop.form = .nop ∧ Instr.halt.form = .halt ∧ Instr.di.form = .di ∧ Instr.ei.form = .ei := by decide +kernel

theorem witness_StopIsATwoByteNoOperation : (Instr.stop 0xFF).form = .stop 0xFF := rfl

theorem witness_IllegalOpcodes : Instr.illegal_D3.form = .illegal 0xD3 ∧ Instr.illegal_FD.form = .illegal 0xFD := by decide +kernel

theorem witness_DelayTickChangesTheMasterEnable :
    let armed := setInts (fun c => { c with diDelay := 2 }) inWram
    let enabling := setInts (fun c => { c with eiDelay := 2 }) inWram
    (armed.ints.eiDelay = 0 ∧ armed.ints.diDelay = 2) ∧ enabling.ints.diDelay = 0 ∧ enabling.ints.eiDelay = 2 := by decide +kernel

theorem witness_StepRunsTheDecodedInstruction :
    let s := start [0xC3, 0x50, 0x01]
    let s1 := s.sampleInput.tickDelays
    s.run = .running ∧ s1.ints.selected = none ∧ s1.ints.halted = false ∧ decode [0xC3, 0x50, 0x01] = .ok (.jp_n16 0x0150, []) ∧
      ∀ k (h : k < [0xC3#8, 0x50#8, 0x01#8].length), s1.busRead (s1.regs.pc + BitVec.ofNat 16 k) = some [0xC3#8, 0x50#8, 0x01#8][k] :=
  ⟨rfl, rfl, rfl, rfl, by decide +kernel⟩

/-- A step whose fetch is declined at its second byte: 0x9FFF holds LD A,n8 and the cartridge declines 0xA000. -/
theorem witness_StepRunsTheDecodedInstruction_declined :
    let s := { start [] |> setRegs (fun r => { r with pc := 0x9FFF }) |> setMem [(0x9FFF, 0x3E)] with cart := .other [0xA000] [] }
    let s1 := s.sampleInput.tickDelays
    s.run = .running ∧ s1.ints.selected = none ∧ s1.ints.halted = false ∧ decode [0x3E] = .error (.truncated 0x3E) ∧
      (∀ k (h : k < [0x3E#8].length), s1.busRead (s1.regs.pc + BitVec.ofNat 16 k) = some [0x3E#8][k]) ∧
      s1.busRead (s1.regs.pc + BitVec.ofNat 16 1) = none :=
  ⟨rfl, rfl, rfl, rfl, by decide +kernel, by decide +kernel⟩

/-- A step whose fetch is declined at its first byte. -/
theorem witness_StepRunsTheDecodedInstruction_declined_first :
    decode [] = .error .noBytes ∧
      (setRegs (fun r => { r with pc := 0x4000 }) declining).sampleInput.tickDelays.busRead 0x4000 = none := ⟨rfl, rfl⟩

/-- A state about to dispatch source i. -/
def requesting (s : State) (i : Nat) : State :=
  setInts (fun c => { c with ime := true, ie := 1#5 <<< i, iflag := 1#5 <<< i }) s

theorem witness_StepDispatchesTheSelectedInterrupt :
    (requesting inWram 0).sampleInput.tickDelays.ints.selected = some 0 ∧
      (requesting inWram 4).sampleInput.tickDelays.ints.selected = some 4 ∧ (requesting inWram 4).run = .running ∧
      ((requesting inWram 4).sampleInput.tickDelays.setSp 0xCFFE).acceptsWord 0xCFFE 0x0100 = true ∧
      ∃ t, ((requesting decliningPush 4).sampleInput.tickDelays.setSp 0x4000).writeWord 0x4000 0x0100 = .error t :=
  ⟨by decide +kernel, by decide +kernel, rfl, by decide +kernel, ⟨_, rfl⟩⟩

theorem witness_HaltedStepIdles :
    let s := setInts (fun c => { c with halted := true, ie := 0x1E }) inWram
    s.run = .running ∧ s.sampleInput.tickDelays.ints.halted = true ∧
      s.sampleInput.tickDelays.ints.ie &&& s.sampleInput.tickDelays.ints.iflag = 0 := by decide +kernel

theorem witness_StepsExactlyWhileRunning :
    State.run { inWram with run := .fatal (.unsupportedCartridge 0xFF) } = .fatal (.unsupportedCartridge 0xFF) ∧
      inWram.run = .running := ⟨rfl, rfl⟩

theorem witness_EndIsForEver :
    let s := setInts (fun c => { c with halted := true }) inWram
    s.run = .running ∧ s.atEnd := ⟨rfl, rfl, rfl⟩

theorem witness_InputLatch :
    State.inputQueue { inWram with inputQueue := [Buttons.released] } = Buttons.released :: [] ∧ inWram.inputQueue = [] := ⟨rfl, rfl⟩

theorem witness_StoredBytesReadBack :
    inWram.mem.wf = true ∧ storesBytes 0x8000 ∧ storesBytes 0x9FFF ∧ storesBytes 0xC000 ∧ storesBytes 0xFE9F ∧ storesBytes 0xFF80 ∧
      storesBytes 0xFFFE ∧ region 0xFFFF ≠ region 0xFFFE ∧ region 0xE000 = region 0xC000 ∧ 7679 < 7680 := by
  unfold storesBytes
  decide +kernel

theorem witness_UnusableBandAndPlainIoBytes :
    0xFEA0 ≤ (0xFEA0 : Word).toNat ∧ (0xFEFF : Word).toNat ≤ 0xFEFF ∧ inWram.mem.wf = true ∧ plainIo 0xFF01 ∧ plainIo 0xFF03 := by
  unfold plainIo
  decide +kernel

theorem witness_UnusableBandAndPlainIoBytes_middle : plainIo 0xFF08 ∧ plainIo 0xFF0E ∧ plainIo 0xFF10 := by
  unfold plainIo
  decide +kernel

theorem witness_UnusableBandAndPlainIoBytes_top : plainIo 0xFF3F ∧ plainIo 0xFF4C ∧ plainIo 0xFF7F := by
  unfold plainIo
  decide +kernel

theorem witness_DmaCopiesAPageIntoOam :
    inWram.mem.wf = true ∧ inWram.accepts 0xFF46 0x00 = true ∧ inWram.accepts 0xFF46 0xFE = true ∧
      inWram.accepts 0xFF46 0xFF = true ∧ (0xFDFF : Word) ≠ 0xFF46 ∧ (0xFDFF : Word).toNat < 0xFE00 ∧
      (0xFEA0 : Word) ≠ 0xFF46 ∧ 0xFEA0 ≤ (0xFEA0 : Word).toNat := by decide +kernel

theorem witness_WritesCompleteWhereAccepted :
    declining.accepts 0xC000 0x12 = true ∧ declining.accepts 0x4000 0x12 = false ∧ region 0x4000 = .cart ∧
      declining.accepts 0xFF46 0x40 = false := by decide +kernel

theorem witness_ReferenceCartridges :
    (∀ d w, State.reset.cart ≠ .other d w) ∧ (0x7FFF : Word).toNat < 0x8000 ∧ 0x4000 ≤ (0x4000 : Word).toNat ∧
      0x2000 ≤ (0x2000 : Word).toNat ∧ (0x3FFF : Word).toNat < 0x4000 :=
  ⟨fun _ _ h => (nomatch h), by decide +kernel⟩

theorem witness_InstructionsThatStoreNothingLeaveMemory :
    Instr.ld_A_atHL.WellFormed = true ∧ Instr.ld_A_atHL.form.writeAddr inWram = none ∧
      (Instr.call_NZ_n16 0).form.writeAddr inWram = none ∧ ∃ t, exec .ld_A_atHL inWram = .next t :=
  ⟨rfl, rfl, rfl, ⟨_, rfl⟩⟩

theorem witness_StoringInstructionsChangeOnlyTheirTarget :
    Instr.inc_atHL.form.writeAddr inWram = some (0xC000, 1) ∧ Instr.push_AF.form.writeAddr inWram = some (0xCFFE, 2) ∧
      (Instr.ld_atN16_SP 0xFFFF).form.writeAddr inWram = some (0xFFFF, 2) ∧ Instr.push_AF.WellFormed = true ∧
      (∀ k < 2, affects (0xCFFE + BitVec.ofNat 16 k) 0xD000 = false) ∧ ∃ t, exec .push_AF inWram = .next t :=
  ⟨rfl, rfl, rfl, rfl, by decide +kernel, ⟨_, rfl⟩⟩

theorem witness_InstructionsChangeOnlyTheirRegisters :
    Instr.pop_BC.WellFormed = true ∧ (∃ t, exec .pop_BC inWram = .next t) ∧ Reg8.A ∉ Instr.pop_BC.form.regsWritten ∧
      Instr.ld_B_C.form.writesSp = false ∧ Instr.ld_B_C.form.writesPc = false :=
  ⟨rfl, ⟨_, rfl⟩, by decide, rfl, rfl⟩

theorem witness_FlagsAndCostsFollowTheTable :
    (∃ t, exec .daa inWram = .next t ∧ t.run = .running) ∧ Instr.daa.WellFormed = true ∧
      Instr.ld_B_C.form.flagColumn = ⟨.kept, .kept, .kept, .kept⟩ ∧ Instr.daa.form.flagColumn ≠ ⟨.kept, .kept, .kept, .kept⟩ :=
  ⟨⟨_, rfl, rfl⟩, rfl, rfl, by decide⟩

/-- R298, R299: SWAP of a register and of the byte at HL, with C set before. -/
theorem witness_FlagsAndCostsFollowTheTable_swap :
    let s := setRegs (fun r => { r with f := 0xF0 }) inWram
    s.flagC = true ∧ Instr.swap_B.WellFormed = true ∧ Instr.swap_atHL.WellFormed = true ∧
      Instr.swap_B.form.flagColumn = ⟨.result, .zero, .zero, .zero⟩ ∧
      Instr.swap_atHL.form.flagColumn = ⟨.result, .zero, .zero, .zero⟩ ∧
      after (exec .swap_B s) (fun t => t.run == .running && !t.flagC) = true ∧
      after (exec .swap_atHL s) (fun t => t.run == .running && !t.flagC) = true := by decide +kernel

theorem witness_OnlySystemInstructionsActOnTheController :
    Instr.push_AF.form ≠ .di ∧ Instr.push_AF.form ≠ .ei ∧ Instr.push_AF.form ≠ .halt ∧ Instr.push_AF.form ≠ .reti ∧
      ∃ t, exec .push_AF inWram = .next t := ⟨by decide, by decide, by decide, by decide, ⟨_, rfl⟩⟩

theorem witness_DividerAndCounter :
    inWram.timer.tac.getLsbD 2 = false ∧
      (let s := setTimer (fun d => { d with tac := 4, tima := 0xFF }) inWram
       s.timer.tac.getLsbD 2 = true ∧ s.timer.timaAcc = 0 ∧ 1023 < s.timer.period ∧ 1024 = s.timer.period ∧ s.timer.tima = 0xFF) ∧
      (setTimer (fun d => { d with tac := 7, tima := 0xFE }) inWram).timer.tima ≠ 0xFF := by decide +kernel

theorem witness_LineTakes456Cycles :
    inWram.lcd.powered = true ∧ inWram.lcd.mode = .spriteScan ∧ inWram.lcd.ly = 0 ∧ inWram.lcd.modeClock = 0 ∧
      [80, 172, 204].sum = 456 ∧ (setLcd (fun d => { d with mode := .hblank }) inWram).lcd.mode = .hblank := by decide +kernel

theorem witness_FrameTakes70224Cycles :
    inWram.lcd.powered = true ∧ inWram.lcd.mode = .spriteScan ∧ inWram.lcd.ly = 0 ∧ inWram.lcd.modeClock = 0 := by decide +kernel

theorem witness_PowerOffResetsTheDisplay :
    (0x7F#8).getLsbD 7 = false ∧ (0x80#8).getLsbD 7 = true ∧
      (setLcd (fun d => { d with lcdc := 0x7F }) inWram).lcd.lcdc.getLsbD 7 = false := by decide +kernel

/-- A state in a mode of a line, one T-cycle before the mode's end. -/
def ending (m : Mode) (ly : Byte) : State := setLcd (fun d => { d with mode := m, ly := ly, modeClock := m.duration - 1 }) inWram

theorem witness_StatusRequestsOfModeEnds :
    (∀ m, m ∈ [Mode.spriteScan, .pixelTransfer, .hblank, .vblank] →
      (ending m 0).lcd.powered = true ∧ (ending m 0).lcd.mode = m ∧ (ending m 0).lcd.modeClock < m.duration ∧
        m.duration ≤ (ending m 0).lcd.modeClock + 1 ∧ (ending m 0).lcd.modeClock + 80 < m.duration + 80) ∧
      (ending .hblank 142).lcd.ly + 1 ≠ 144 ∧ (ending .hblank 143).lcd.ly + 1 = 144 ∧ (ending .vblank 152).lcd.ly + 1 ≠ 154 ∧
      (ending .vblank 153).lcd.ly + 1 = 154 := by decide +kernel

theorem witness_PixelTransferEndsWithTheRow :
    let s := ending .pixelTransfer 143
    s.lcd.powered = true ∧ s.lcd.mode = .pixelTransfer ∧ s.lcd.modeClock < 172 ∧ 172 ≤ s.lcd.modeClock + 1 ∧
      s.lcd.modeClock + 204 < 172 + 204 ∧ s.lcd.ly.toNat < s.lcd.fb.length := by decide +kernel

/-- Two sprites over column 0 of line 0: the first transparent there, the second opaque, and column 1 under neither's dots. -/
def overlapping : State :=
  setMem [(0x8020, 0x80), (0xFE00, 0x10), (0xFE01, 0x08), (0xFE02, 0x01), (0xFE04, 0x10), (0xFE05, 0x08), (0xFE06, 0x02)]
    (setLcd (fun d => { d with lcdc := 0x93, obp0 := 0xE4 }) (ending .pixelTransfer 0))

theorem witness_PixelTransferEndsWithTheRow_sprites :
    overlapping.lcd.powered = true ∧ overlapping.selectSprites 0 = [0, 1] ∧ overlapping.spriteShade 0 0 0 = none ∧
      overlapping.spriteShade 0 0 1 = some 1 ∧ (∀ k ∈ overlapping.selectSprites 0, overlapping.spriteShade 0 159 k = none) := by
  decide +kernel

theorem witness_PixelTransferEndsWithTheRow_blank :
    let s := setLcd (fun d => { d with lcdc := 0x80 }) (ending .pixelTransfer 0)
    s.lcd.powered = true ∧ s.lcd.lcdc.getLsbD 0 = false ∧ s.lcd.lcdc.getLsbD 1 = false := by decide +kernel

/-- Eleven sprites on line 0, with sprites on. -/
def crowded : State :=
  setLcd (fun d => { d with lcdc := 0x93 }) (setMem ((List.range 11).map fun k => (0xFE00 + 4 * k, 0x10)) inWram)

theorem witness_AtMostTenSpritesPerLine :
    inWram.lcd.lcdc.getLsbD 1 = false ∧ crowded.lcd.lcdc.getLsbD 1 = true ∧ 0 ∈ crowded.selectSprites 0 ∧
      10 ∉ crowded.selectSprites 0 ∧ (crowded.mem.read (0xFE00 + 4 * 10)).toNat ≤ 0 + 16 ∧
      0 + 16 < (crowded.mem.read (0xFE00 + 4 * 10)).toNat + 8 := by decide +kernel

theorem witness_EveryStepKeepsTheInvariant : (start [0x00]).Inv ∧ ∃ t, step (start [0x00]) = .next t :=
  ⟨{ memCanonical := rfl
     memKeys := fun _ h => nomatch h
     cartCanonical := rfl
     flagsLow := rfl
     divPhase := by decide
     timaPhase := by decide
     lineRange := by decide
     lineMode := by decide
     modePhase := by decide
     powerOff := fun h => nomatch h
     frameRows := List.length_replicate
     frameColumns := fun row h => by
       rw [List.eq_of_mem_replicate h]
       exact List.length_replicate
     costBound := by decide }, ⟨_, rfl⟩⟩

end Sys2Proof.Tests
end

section
/-! SUPPORT. The I/O registers by the address map, their bit fields as the rules write them, and what a DMA copy leaves in
OAM; with them the obligations on the registers, the DMA copy and the reset. -/

namespace Sys2Proof.Machine

/-! ## Accesses by the address map (R91, R92) -/

theorem State.busRead_io (s : State) {a : Word} {r : IoReg} (h : region a = .io r) : s.busRead a = some (s.ioRead a r) := by
  rw [State.busRead, h]

theorem State.writeByte_io (s : State) {a : Word} {r : IoReg} (v : Byte) (h : region a = .io r) :
    s.writeByte a v = s.ioWrite a r v := by
  rw [State.writeByte, h]

/-- R98: both accesses to an address of the I/O range are those of the register it holds. -/
theorem State.access_io (s : State) (v : Byte) {a : Word} (r : IoReg) (h : region a = .io r) :
    s.busRead a = some (s.ioRead a r) ∧ s.writeByte a v = s.ioWrite a r v :=
  ⟨s.busRead_io h, s.writeByte_io v h⟩

theorem State.busRead_store (s : State) {a : Word} {key : Nat} (h : region a = .store key) :
    s.busRead a = some (s.mem.read key) := by
  rw [State.busRead, h]

theorem State.busRead_ie (s : State) : s.busRead 0xFFFF = some (s.ieHigh ++ s.ints.ie) := by
  rw [State.busRead, region_ie.mpr rfl]

theorem State.writeByte_ie (s : State) (v : Byte) :
    s.writeByte 0xFFFF v = .ok { s with ints := { s.ints with ie := v.extractLsb' 0 5 } } := by
  rw [State.writeByte, region_ie.mpr rfl]

/-! ## The bit fields of the registers -/

/-- R8, R9: joined fields as the shift and or in which the rules of the registers are written. -/
theorem append_eq_shiftLeft_or {m n : Nat} (hi : BitVec m) (lo : BitVec n) :
    hi ++ lo = hi.zeroExtend (m + n) <<< n ||| lo.zeroExtend (m + n) := by
  simpa using BitVec.setWidth_append_eq_shiftLeft_setWidth_or (b := hi) (b' := lo) (w'' := m + n)

/-- R9: the low n bits of a byte, `v[n-1:0]`, are its truncation. -/
theorem extractLsb'_zero_eq_truncate (v : Byte) (n : Nat) : v.extractLsb' 0 n = v.truncate n := by
  simpa using (BitVec.setWidth_ushiftRight_eq_extractLsb (b := v) (w' := 0) (w'' := n)).symm

/-- R50: STAT as its rule writes it. -/
theorem Display.stat_eq_or (d : Display) :
    d.stat = 0x80#8 ||| (d.statEn.zeroExtend 8 <<< 3) ||| (if d.ly = d.lyc then 4 else 0) ||| d.mode.code.zeroExtend 8 := by
  rw [← d.stat.setWidth_eq, Display.stat, BitVec.setWidth_append_append_append_eq_shiftLeft_setWidth_or]
  by_cases h : d.ly = d.lyc
  · simp [h]
  · simp [beq_false_of_ne h, h]

/-- R47: the two low bits of TAC, counted. -/
theorem toNat_tacSelect (v : Byte) : ((v.extractLsb' 0 3).extractLsb' 0 2).toNat = v.toNat % 4 := by
  simp only [BitVec.extractLsb'_toNat, Nat.shiftRight_zero]
  omega

/-- R47: the period that a value written to TAC selects, by its two low bits. -/
theorem Timer.period_writeTac (t : Timer) (v : Byte) :
    (t.writeTac v).period =
      if v.toNat % 4 = 0 then 1024 else if v.toNat % 4 = 1 then 16 else if v.toNat % 4 = 2 then 64 else 256 := by
  simp only [Timer.period, Timer.writeTac, Config.timaPeriod, ← toNat_tacSelect v, ← BitVec.toNat_inj]
  rfl

/-! ## The DMA copy (R102) -/

/-- R91: a read looks at one byte of memory at most: the one at its key, or a plain I/O byte. -/
theorem State.busRead_mem_congr {s : State} {m : Memory} {a : Word}
    (hstore : ∀ key, region a = .store key → m.read key = s.mem.read key)
    (hplain : region a = .io .plain → m.read a.toNat = s.mem.read a.toNat) :
    State.busRead { s with mem := m } a = s.busRead a := by
  unfold State.busRead
  cases hr : region a with
  | store key => exact congrArg some (hstore key hr)
  | io r =>
    cases r with
    | plain => exact congrArg some (hplain hr)
    | _ => rfl
  | _ => rfl

/-- R91, R94: no other address reads a byte of OAM, so a read outside OAM looks at none of its bytes. -/
theorem State.busRead_congr_outside_oam {s : State} {m : Memory} {a : Word} (ha : a.toNat < 0xFE00 ∨ 0xFEA0 ≤ a.toNat)
    (hm : ∀ key, key < 0xFE00 ∨ 0xFEA0 ≤ key → m.read key = s.mem.read key) :
    State.busRead { s with mem := m } a = s.busRead a := by
  refine State.busRead_mem_congr (fun key hkey => hm key ?_) (fun _ => hm _ ha)
  rw [region_store] at hkey
  omega

/-- A byte stored in OAM changes no read but that of its own address. -/
theorem State.busRead_write_oam_other {s : State} {a : Word} {i : Nat} (v : Byte) (hi : i < 160)
    (ha : a.toNat ≠ oamBase + i) : State.busRead { s with mem := s.mem.write (oamBase + i) v } a = s.busRead a := by
  refine State.busRead_mem_congr (fun key hkey => Memory.read_write_other _ _ ?_) (fun _ => Memory.read_write_other _ _ ha.symm)
  rw [region_store] at hkey
  unfold oamBase at *
  omega

theorem ioReg_dma {a : Word} (h : ioReg a = .dma) : a = 0xFF46 := by
  by_contra ha
  simp only [ioReg, if_neg ha, ite_eq_iff, reduceCtorEq, and_false, or_false] at h

/-- R55: DMA_REG is read at its own address only. -/
theorem State.busRead_dmaReg {s : State} {a : Word} (v : Byte) (ha : a ≠ 0xFF46) :
    State.busRead { s with dmaReg := v } a = s.busRead a := by
  unfold State.busRead
  cases hr : region a with
  | io r =>
    cases r with
    | dma => exact absurd (ioReg_dma (region_io.mp hr).2) ha
    | _ => rfl
  | _ => rfl

/-- R102: the copy's source addresses, in arithmetic. -/
theorem dmaSource_eq (page : Byte) (i : Nat) :
    joinBytes page 0 + BitVec.ofNat 16 i = BitVec.ofNat 16 (256 * page.toNat + i) := by
  apply BitVec.eq_of_toNat_eq
  simp [toNat_joinBytes]

/-- R102: the copy of one byte of OAM leaves every other source byte as it reads, for page 0xFE too, where byte i of
OAM is its own source. -/
theorem dmaSource_ne_oam (page : Byte) {i j : Nat} (hi : i < 160) (hj : j < 160) (hij : i ≠ j) :
    (BitVec.ofNat 16 (256 * page.toNat + j)).toNat ≠ oamBase + i := by
  have := page.isLt
  rw [BitVec.toNat_ofNat, oamBase]
  omega

/-- R102: a copy whose reads complete stores each source byte, as it read before the copy, and no other byte. -/
theorem dmaCopy_ok {page : Byte} {l : List Nat} {s : State} (hwf : s.mem.wf = true) (hl : ∀ i ∈ l, i < 160)
    (hnodup : l.Nodup) (hreads : ∀ i ∈ l, (s.busRead (BitVec.ofNat 16 (256 * page.toNat + i))).isSome) :
    ∃ m, dmaCopy page l s = .ok { s with mem := m } ∧
      (∀ i ∈ l, s.busRead (BitVec.ofNat 16 (256 * page.toNat + i)) = some (m.read (oamBase + i))) ∧
      ∀ key, (∀ i ∈ l, oamBase + i ≠ key) → m.read key = s.mem.read key := by
  induction l generalizing s with
  | nil => exact ⟨s.mem, rfl, nofun, fun _ _ => rfl⟩
  | cons i rest ih =>
    rw [List.forall_mem_cons] at hl hreads
    obtain ⟨hi, hl⟩ := hl
    obtain ⟨hread, hreads⟩ := hreads
    obtain ⟨hnot, hnodup⟩ := List.nodup_cons.mp hnodup
    obtain ⟨v, hv⟩ := Option.isSome_iff_exists.mp hread
    have hsource : ∀ j ∈ rest, State.busRead { s with mem := s.mem.write (oamBase + i) v }
        (BitVec.ofNat 16 (256 * page.toNat + j)) = s.busRead (BitVec.ofNat 16 (256 * page.toNat + j)) := fun j hj =>
      State.busRead_write_oam_other v hi (dmaSource_ne_oam page hi (hl j hj) fun h => hnot (h ▸ hj))
    obtain ⟨m, hok, hfill, hkeep⟩ := ih (s := { s with mem := s.mem.write (oamBase + i) v })
      (Memory.write_wf hwf _ _) hl hnodup fun j hj => by rw [hsource j hj]; exact hreads j hj
    refine ⟨m, ?_, ?_, fun key hkey => ?_⟩
    · rw [dmaCopy_cons_ok (by rw [dmaSource_eq]; exact hv), hok]
    · rw [List.forall_mem_cons]
      refine ⟨?_, fun j hj => (hsource j hj).symm.trans (hfill j hj)⟩
      have hkept : m.read (oamBase + i) = (s.mem.write (oamBase + i) v).read (oamBase + i) :=
        hkeep _ fun j hj h => hnot ((Nat.add_left_cancel h) ▸ hj)
      rw [hv, hkept, Memory.read_write_same hwf]
    · rw [List.forall_mem_cons] at hkey
      exact (hkeep key hkey.2).trans (Memory.read_write_other _ _ hkey.1)

/-- R101, R102: a write to 0xFF46 is accepted where its 160 reads complete. -/
theorem State.accepts_dma {s : State} {v : Byte} :
    s.accepts 0xFF46 v = true ↔ ∀ i < 160, (s.busRead (BitVec.ofNat 16 (256 * v.toNat + i))).isSome := by
  have hdma : region 0xFF46 = .io .dma := rfl
  simp only [State.accepts, hdma, List.all_eq_true, List.mem_range, dmaSource_eq]

/-- R101: DMA_REG has no part in whether a read completes. -/
theorem State.isSome_busRead_dmaReg (s : State) (v : Byte) (a : Word) :
    (State.busRead { s with dmaReg := v } a).isSome = (s.busRead a).isSome := by
  by_cases ha : a = 0xFF46
  · subst ha
    rfl
  · rw [State.busRead_dmaReg v ha]

/-- R92: the address of byte i of OAM names that byte. -/
theorem region_oam {i : Nat} (hi : i < 160) : region (BitVec.ofNat 16 (0xFE00 + i)) = .store (oamBase + i) := by
  rw [region_store, BitVec.toNat_ofNat, oamBase]
  omega

/-- R55, R102: an accepted write to 0xFF46 completes: DMA_REG holds the value, OAM the page's bytes as they read with
DMA_REG already set, and memory outside OAM is as it was. -/
theorem State.writeDma_ok {s : State} {v : Byte} (hwf : s.mem.wf = true) (hacc : s.accepts 0xFF46 v = true) :
    ∃ m, s.writeDma v = .ok { s with dmaReg := v, mem := m } ∧
      (∀ i < 160, State.busRead { s with dmaReg := v } (BitVec.ofNat 16 (256 * v.toNat + i)) = some (m.read (oamBase + i))) ∧
      ∀ key, key < 0xFE00 ∨ 0xFEA0 ≤ key → m.read key = s.mem.read key := by
  obtain ⟨m, hok, hfill, -⟩ := dmaCopy_ok (page := v) (l := List.range 160) (s := { s with dmaReg := v }) hwf
    (fun _ hi => List.mem_range.mp hi) List.nodup_range fun i hi => by
      rw [s.isSome_busRead_dmaReg]
      exact State.accepts_dma.mp hacc i (List.mem_range.mp hi)
  exact ⟨m, hok, fun i hi => hfill i (List.mem_range.mpr hi), (writeDma_frame (.inl hok)).2⟩

/-! ## The obligations -/

/-- Settles O38: each register answers at its address as `ioRead` and `ioWrite` say, and the fields of TAC, IF and IE are
the shifts and truncations of the rules. -/
theorem timerAndInterruptRegisters : Obligations.TimerAndInterruptRegisters := by
  refine ⟨fun s v => ⟨s.access_io v .div rfl, s.access_io v .tima rfl, s.access_io v .tma rfl, ?tac⟩,
    fun s v => ⟨?iflag, ?ie⟩⟩
  case tac =>
    obtain ⟨read, write⟩ := s.access_io (a := 0xFF07) v .tac rfl
    refine ⟨?_, { s with timer := s.timer.writeTac v }, write, ?_, rfl, s.timer.period_writeTac v⟩
    · rw [read, State.ioRead, append_eq_shiftLeft_or]
      rfl
    · rw [← extractLsb'_zero_eq_truncate]
      rfl
  case iflag =>
    obtain ⟨read, write⟩ := s.access_io (a := 0xFF0F) v .iflag rfl
    rw [read, write, State.ioRead, State.ioWrite, append_eq_shiftLeft_or, extractLsb'_zero_eq_truncate]
    exact ⟨rfl, rfl⟩
  case ie =>
    rw [s.busRead_ie, s.writeByte_ie, append_eq_shiftLeft_or, extractLsb'_zero_eq_truncate]
    exact ⟨rfl, rfl⟩

/-- Settles O39: each register answers at its address as `ioRead` and `ioWrite` say; STAT is joined from its fields. -/
theorem displayRegisters : Obligations.DisplayRegisters := by
  intro s v
  refine ⟨?stat, s.access_io v .scy rfl, s.access_io v .scx rfl, s.access_io v .ly rfl, s.access_io v .lyc rfl,
    s.access_io v .bgp rfl, s.access_io v .obp0 rfl, s.access_io v .obp1 rfl, s.access_io v .wy rfl, s.access_io v .wx rfl⟩
  obtain ⟨read, write⟩ := s.access_io (a := 0xFF41) v .stat rfl
  rw [read, write, State.ioRead, State.ioWrite, Display.stat_eq_or, BitVec.truncate, BitVec.setWidth_ushiftRight_eq_extractLsb]
  exact ⟨rfl, rfl⟩

/-- Settles O58: the fields are those of `State.reset`, and each register reads its own at its address. -/
theorem resetValuesAndReads : Obligations.ResetValuesAndReads := by
  have tac : 0b11111#5 ++ State.reset.timer.tac = 0xF8#8 := by decide
  have iflag : 0b111#3 ++ State.reset.ints.iflag = 0xE1#8 := by decide
  have stat : State.reset.lcd.stat = 0x86 := by decide
  refine ⟨⟨rfl, rfl, rfl, rfl, rfl, rfl, rfl⟩, fun high => ?_⟩
  intro s
  refine ⟨s.busRead_io (r := .div) rfl, s.busRead_io (r := .tima) rfl, s.busRead_io (r := .tma) rfl,
    (s.busRead_io (r := .tac) rfl).trans (congrArg some tac),
    (s.busRead_io (r := .iflag) rfl).trans (congrArg some iflag), s.busRead_io (r := .lcdc) rfl,
    (s.busRead_io (r := .stat) rfl).trans (congrArg some stat), s.busRead_io (r := .scy) rfl,
    s.busRead_io (r := .scx) rfl, s.busRead_io (r := .ly) rfl, s.busRead_io (r := .lyc) rfl, s.busRead_io (r := .dma) rfl,
    s.busRead_io (r := .bgp) rfl, s.busRead_io (r := .obp0) rfl, s.busRead_io (r := .obp1) rfl,
    s.busRead_io (r := .wy) rfl, s.busRead_io (r := .wx) rfl, ?ie⟩
  case ie =>
    calc s.busRead 0xFFFF = some (high ++ 0#5) := s.busRead_ie
      _ = some (high.zeroExtend 8 <<< 5) := by rw [append_eq_shiftLeft_or]; simp

/-- Settles O41: the copy of one byte leaves every other source byte as it reads (`dmaSource_ne_oam`), so each byte of the
page is stored as it read at the start. -/
theorem dmaCopiesAPageIntoOam : Obligations.DmaCopiesAPageIntoOam := by
  intro s v
  refine ⟨s.busRead_io (r := .dma) rfl, fun hwf hacc => ?_⟩
  obtain ⟨m, hok, hfill, hkeep⟩ := State.writeDma_ok hwf hacc
  refine ⟨{ s with dmaReg := v, mem := m }, (s.writeByte_io (r := .dma) v rfl).trans hok,
    State.busRead_io (r := .dma) _ rfl, rfl, fun i hi => ?_, fun b hb hout => ?_⟩
  · rw [State.busRead_store _ (region_oam hi), hfill i hi]
  · calc State.busRead { s with dmaReg := v, mem := m } b
      _ = State.busRead { s with dmaReg := v } b :=
        State.busRead_congr_outside_oam (s := { s with dmaReg := v }) hout hkeep
      _ = s.busRead b := State.busRead_dmaReg v hb

end Sys2Proof.Machine
end

section
/-! SUPPORT. The plain bytes of the I/O range by the address map; with them the obligation on the unusable band and the
plain I/O bytes. -/

namespace Sys2Proof.Machine

/-- R96: an access to the unusable band looks at nothing and changes nothing. -/
theorem State.access_unusable (s : State) {a : Word} (v : Byte) (h : region a = .unusable) :
    s.busRead a = some 0xFF ∧ s.writeByte a v = .ok s := by
  rw [State.busRead, State.writeByte, h]
  exact ⟨rfl, rfl⟩

/-- R104, R106: the addresses of the I/O range that no register owns. -/
theorem region_plainIo {a : Word} : region a = .io .plain ↔ plainIo a := by
  have owned : ioReg a = .plain ↔ a.toNat ∉ [0xFF00, 0xFF04, 0xFF05, 0xFF06, 0xFF07, 0xFF0F, 0xFF40, 0xFF41, 0xFF42,
      0xFF43, 0xFF44, 0xFF45, 0xFF46, 0xFF47, 0xFF48, 0xFF49, 0xFF4A, 0xFF4B] := by
    simp [ioReg, ite_eq_iff, ← BitVec.toNat_inj]
  rw [region_io, owned, plainIo]
  simp only [List.mem_cons, List.not_mem_nil, or_false]
  omega

/-- R92, R104: the byte of memory at the key of a plain I/O byte is read at that byte's address only. -/
theorem State.busRead_write_plainIo_other {s : State} {a b : Word} (v : Byte) (ha : plainIo a) (hb : b ≠ a) :
    State.busRead { s with mem := s.mem.write a.toNat v } b = s.busRead b := by
  refine State.busRead_mem_congr (fun key hkey => Memory.read_write_other _ _ ?_)
    (fun _ => Memory.read_write_other _ _ (BitVec.toNat_ne.mp hb.symm))
  obtain ⟨⟨hlow, hhigh⟩, -⟩ := region_io.mp (region_plainIo.mpr ha)
  have := (region_store_key hkey).2
  omega

/-- Settles O37: the band is the unusable range of the map, and a plain I/O byte is the byte of memory at its own address,
which no other address reads. -/
theorem unusableBandAndPlainIoBytes : Obligations.UnusableBandAndPlainIoBytes := by
  refine ⟨fun s a v hlow hhigh => s.access_unusable v (region_unusable.mpr ⟨hlow, Nat.lt_succ_of_le hhigh⟩),
    fun s a v hwf ha => ?plain⟩
  case plain =>
    have hr : region a = .io .plain := region_plainIo.mpr ha
    refine ⟨{ s with mem := s.mem.write a.toNat v }, s.writeByte_io v hr, ?_,
      fun b hb => State.busRead_write_plainIo_other v ha hb, rfl⟩
    calc State.busRead { s with mem := s.mem.write a.toNat v } a
      _ = some ((s.mem.write a.toNat v).read a.toNat) := State.busRead_io _ hr
      _ = some v := congrArg some (Memory.read_write_same hwf a.toNat v)

end Sys2Proof.Machine
end

section
/-! SUPPORT. The rows of the opcode map without an instruction, and the fatal state they enter; with them the obligation on
the illegal opcodes. -/

namespace Sys2Proof.Machine

/-! ## The opcodes without an instruction (R143) -/

/-- R143: the opcode that an illegal form records is one of the listed ones. -/
def namesListedIllegal (f : Form) : Bool :=
  match f with
  | .illegal op => illegalOpcodes.contains op
  | _ => true

theorem form_namesListedIllegal (i : Instr) : namesListedIllegal i.form = true := by
  cases i <;> rfl

theorem mem_illegalOpcodes_of_form {i : Instr} {op : Byte} (h : i.form = .illegal op) : op ∈ illegalOpcodes := by
  have listed := form_namesListedIllegal i
  rw [h, namesListedIllegal, List.contains_iff_mem] at listed
  exact listed

/-- R143: each listed opcode has a row, of the illegal form, that round-trips. -/
theorem exists_illegal_row : ∀ op ∈ illegalOpcodes, ∃ i : Instr, i.form = .illegal op ∧ Laws.RoundTrip.Statement i := by
  simp only [illegalOpcodes, List.forall_mem_cons]
  exact ⟨⟨.illegal_D3, rfl, Laws.RoundTrip.illegal_D3⟩, ⟨.illegal_DB, rfl, Laws.RoundTrip.illegal_DB⟩,
    ⟨.illegal_DD, rfl, Laws.RoundTrip.illegal_DD⟩, ⟨.illegal_E3, rfl, Laws.RoundTrip.illegal_E3⟩,
    ⟨.illegal_E4, rfl, Laws.RoundTrip.illegal_E4⟩, ⟨.illegal_EB, rfl, Laws.RoundTrip.illegal_EB⟩,
    ⟨.illegal_EC, rfl, Laws.RoundTrip.illegal_EC⟩, ⟨.illegal_ED, rfl, Laws.RoundTrip.illegal_ED⟩,
    ⟨.illegal_F4, rfl, Laws.RoundTrip.illegal_F4⟩, ⟨.illegal_FC, rfl, Laws.RoundTrip.illegal_FC⟩,
    ⟨.illegal_FD, rfl, Laws.RoundTrip.illegal_FD⟩, List.forall_mem_nil _⟩

/-- R143, R145: a listed opcode decodes, whatever bytes follow it, to an instruction of its illegal form. -/
theorem decode_illegal {op : Byte} (h : op ∈ illegalOpcodes) (rest : List Byte) :
    ∃ i : Instr, decode (op :: rest) = .ok (i, rest) ∧ i.form = .illegal op := by
  obtain ⟨i, hform, hround⟩ := exists_illegal_row op h
  have hencode : encode i = [op] := by rw [encode, hform, Form.encode]
  have hwf : i.WellFormed = true := (wellFormed_iff i).mpr fun op2 hcb => nomatch hform.symm.trans hcb
  have hdecode := hround hwf rest
  rw [hencode] at hdecode
  exact ⟨i, hdecode, hform⟩

/-! ## The fatal state (R357, R371) -/

/-- R357, R373: an illegal instruction, one byte long, raises the fatal error and does nothing else. -/
theorem exec_illegal {i : Instr} {op : Byte} (h : i.form = .illegal op) (s : State) :
    exec i s = .next (s.raise (.unimplementedOpcode op false (s.regs.pc - 1))) := by
  rw [exec_eq_execForm, h, execForm, unimplemented]

/-- R371, R396: no device advances where the step ended in the fatal state. -/
theorem State.afterCpu_raise (s : State) (k : Fatal) : (s.raise k).afterCpu = s.raise k := rfl

/-- Settles O28: the illegal forms are the eleven listed rows, each decodes from its opcode, and its meaning is `raise`
alone, from which no device advances. Protected, so that the short name stays that of the list of R143. -/
protected theorem illegalOpcodes : Obligations.IllegalOpcodes := by
  refine ⟨fun op b1 b2 => ⟨?listed, ?decodes⟩, fun i s op hform => ?fatal⟩
  case listed =>
    rintro ⟨i, -, -, hform⟩
    exact mem_illegalOpcodes_of_form hform
  case decodes =>
    intro hop
    obtain ⟨i, hdecode, hform⟩ := decode_illegal hop [b1, b2]
    exact ⟨i, [b1, b2], hdecode, hform⟩
  case fatal =>
    exact ⟨_, exec_illegal hform s, rfl, State.afterCpu_raise _ _⟩

end Sys2Proof.Machine
end

section
/-! SUPPORT. When a byte write completes, what a declined access of an instruction ends in, and the frame of an update of
one register or pair; with them the obligations on the 8-bit loads and stores. -/

namespace Sys2Proof.Machine

/-! ## An instruction by its form -/

theorem encode_of_form {i : Instr} {f : Form} (h : i.form = f) : encode i = f.encode := congrArg Form.encode h

theorem exec_of_form {i : Instr} {f : Form} (h : i.form = f) (s : State) : exec i s = execForm f s := by
  rw [exec_eq_execForm, h]

/-! ## When a byte write completes (R101, R102) -/

/-- R101: whether a read completes is the cartridge's alone to say: memory has no part in it. -/
theorem State.isSome_busRead_mem (s : State) (m : Memory) (a : Word) :
    (State.busRead { s with mem := m } a).isSome = (s.busRead a).isSome := by
  unfold State.busRead
  cases region a <;> rfl

/-- R102: a copy completes where each of its source bytes reads before it. -/
theorem dmaCopy_isOk (page : Byte) (l : List Nat) (s : State) :
    (dmaCopy page l s).isOk = l.all fun i => (s.busRead (joinBytes page 0 + BitVec.ofNat 16 i)).isSome := by
  induction l generalizing s with
  | nil => rfl
  | cons i rest ih =>
    cases hr : s.busRead (joinBytes page 0 + BitVec.ofNat 16 i) with
    | none =>
      rw [dmaCopy_cons_declined hr, List.all_cons, hr]
      rfl
    | some v =>
      rw [dmaCopy_cons_ok hr, ih, List.all_cons, hr]
      simp only [State.isSome_busRead_mem, Option.isSome_some, Bool.true_and]

/-- R101: `accepts` says whether the bus write completes. -/
theorem State.writeByte_isOk (s : State) (a : Word) (v : Byte) : (s.writeByte a v).isOk = s.accepts a v := by
  unfold State.writeByte State.accepts
  cases region a with
  | cart => cases s.cart.write a v <;> rfl
  | io r =>
    cases r with
    | dma =>
      simp only [State.ioWrite, State.writeDma, dmaCopy_isOk, State.isSome_busRead_dmaReg]
    | _ => rfl
  | _ => rfl

theorem State.writeByte_accepted {s : State} {a : Word} {v : Byte} (h : s.accepts a v = true) :
    ∃ t, s.writeByte a v = .ok t ∧ t.regs = s.regs := by
  rw [← s.writeByte_isOk] at h
  cases hw : s.writeByte a v with
  | ok t => exact ⟨t, rfl, (State.writeByte_frame (.inl hw)).1⟩
  | error t =>
    rw [hw] at h
    cases h

theorem State.writeByte_declined {s : State} {a : Word} {v : Byte} (h : s.accepts a v = false) :
    ∃ t, s.writeByte a v = .error t := by
  rw [← s.writeByte_isOk] at h
  cases hw : s.writeByte a v with
  | ok t =>
    rw [hw] at h
    cases h
  | error t => exact ⟨t, rfl⟩

/-! ## Declined accesses (R101, R371) -/

/-- R371: an instruction whose first access ends in the fatal state does nothing more. -/
theorem perform_bind_error {α : Type} {m : Nat} {act : Act α} {t : State} (h : act = .error t) (k : α → Act State) :
    perform m (act >>= k) = .next t := by
  rw [h]
  rfl

theorem readDeclined_of_exec {i : Instr} {s : State} {a : Word} {m : Nat} {k : Byte → Act State}
    (h : exec i s = perform m (s.readByte a >>= k)) : readDeclined i s a :=
  fun hnone => h.trans (perform_bind_error (State.readByte_declined hnone) k)

theorem writeDeclined_of_exec {i : Instr} {s : State} {a : Word} {v : Byte} {m : Nat} {k : State → Act State}
    (h : exec i s = perform m (s.writeByte a v >>= k)) : writeDeclined i s a v := by
  intro hacc
  obtain ⟨t, ht⟩ := State.writeByte_declined hacc
  exact ⟨t, ht, h.trans (perform_bind_error ht k)⟩

/-! ## The frame of a register update -/

theorem State.reg_congr {s t : State} (h : t.regs = s.regs) (r : Reg8) : t.reg r = s.reg r := by
  unfold State.reg
  rw [h]

theorem State.keepsRegsBut_nil {s t : State} (h : t.regs = s.regs) : s.keepsRegsBut t [] :=
  ⟨fun r _ => State.reg_congr h r, by rw [h], by rw [h]⟩

theorem State.keepsRegsBut.trans {s t u : State} {l l' : List Reg8} (hst : s.keepsRegsBut t l)
    (htu : t.keepsRegsBut u l') : s.keepsRegsBut u (l ++ l') := by
  obtain ⟨hreg, hsp, hpc⟩ := hst
  obtain ⟨hreg', hsp', hpc'⟩ := htu
  refine ⟨fun r hr => ?_, hsp'.trans hsp, hpc'.trans hpc⟩
  obtain ⟨hl, hl'⟩ := not_or.mp (mt List.mem_append.mpr hr)
  exact (hreg' r hl').trans (hreg r hl)

theorem State.changedRegs_setReg (s : State) (r : Reg8) (v : Byte) (m : Nat) :
    s.changedRegs { s.setReg r v with cost := m } m := by
  cases r <;> rfl

theorem State.changedRegs_setPair (s : State) (p : Pair) (v : Word) (m : Nat) :
    s.changedRegs { s.setPair p v with cost := m } m := by
  cases p <;> rfl

theorem State.keepsRegsBut_setReg (s : State) (r : Reg8) (v : Byte) : s.keepsRegsBut (s.setReg r v) [r] :=
  ⟨fun r' hr' => by rw [s.reg_setReg, if_neg (List.ne_of_not_mem_cons hr')], s.setReg_regs_sp r v, s.setReg_regs_pc r v⟩

/-- R31: a write of a pair reaches only the registers it names. -/
theorem State.reg_setPair_of_notMem {p : Pair} {r : Reg8} (h : r ∉ pairRegs p) (s : State) (v : Word) :
    (s.setPair p v).reg r = s.reg r := by
  cases p <;> simp_all [State.setPair, pairRegs]

theorem State.setPair_regs_sp {p : Pair} (h : p ≠ .SP) (s : State) (v : Word) : (s.setPair p v).regs.sp = s.regs.sp := by
  cases p with
  | SP => exact absurd rfl h
  | _ => rfl

theorem State.setPair_regs_f {p : Pair} (h : p ≠ .AF) (s : State) (v : Word) : (s.setPair p v).regs.f = s.regs.f := by
  cases p with
  | AF => exact absurd rfl h
  | _ => rfl

theorem State.keepsRegsBut_setHL (s : State) (v : Word) : s.keepsRegsBut (s.setPair .HL v) [.H, .L] :=
  ⟨fun _ hr => State.reg_setPair_of_notMem hr s v, rfl, rfl⟩

/-- R160, R161: the next state of a load of a byte into a register. -/
theorem State.setReg_loads (s : State) (d : Reg8) (v : Byte) (m : Nat) :
    s.changedRegs { s.setReg d v with cost := m } m ∧ State.reg { s.setReg d v with cost := m } d = v ∧
      s.keepsRegsBut { s.setReg d v with cost := m } [d] ∧ (s.setReg d v).regs.f = s.regs.f :=
  ⟨s.changedRegs_setReg d v m, (s.reg_setReg d d v).trans (if_pos rfl), s.keepsRegsBut_setReg d v, s.setReg_regs_f d v⟩

/-! ## The obligations -/

/-- Settles O4: each form is one register update with its cost; a pair that `LD rr,n16` names is not AF, so it reads back
the word and F stays. -/
theorem registerLoads : Obligations.RegisterLoads := by
  refine ⟨fun i s d => ⟨fun r h => ?regReg, fun n8 h => ?regImm⟩,
    fun i s => ⟨fun rr n16 h => ?pairImm, fun h => ?spHL⟩⟩
  case regReg => exact ⟨encode_of_form h, _, exec_of_form h s, s.setReg_loads d (s.reg r) 1⟩
  case regImm => exact ⟨encode_of_form h, _, exec_of_form h s, s.setReg_loads d n8 2⟩
  case pairImm =>
    have hAF : rr ≠ .AF := by simpa [h, namesLegalPair] using form_namesLegalPair i
    exact ⟨encode_of_form h, _, exec_of_form h s, s.changedRegs_setPair rr n16 3, s.pair_setPair rr n16 hAF,
      fun r hr => State.reg_setPair_of_notMem hr s n16, fun hSP => State.setPair_regs_sp hSP s n16,
      State.setPair_regs_f hAF s n16, s.setPair_regs_pc rr n16⟩
  case spHL => exact ⟨encode_of_form h, exec_of_form h s⟩

/-- Settles O5: every form reads the byte at its address and then writes the register. -/
theorem loadsFromMemory : Obligations.LoadsFromMemory := by
  intro i s d a m hform
  have hexec : exec i s = perform m (s.readByte a >>= fun v => .ok (s.setReg d v)) := by
    obtain ⟨h, rfl, rfl⟩ |
      ⟨rfl, ⟨p, h, rfl, rfl⟩ | ⟨h, rfl⟩ | ⟨n8, h, rfl, rfl⟩ | ⟨h, rfl, rfl⟩⟩ := hform <;>
      exact exec_of_form h s
  refine ⟨encode_of_form, fun _ => encode_of_form, encode_of_form, fun _ => encode_of_form, encode_of_form,
    fun v hv => ⟨_, ?next, s.setReg_loads d v m⟩, readDeclined_of_exec hexec⟩
  case next =>
    rw [hexec, State.readByte_ok hv]
    rfl

/-- Settles O6: every form is one bus write, which completes where it is accepted (`State.writeByte_isOk`). -/
theorem storesToMemory : Obligations.StoresToMemory := by
  intro i s a v m hform
  have hexec : exec i s = perform m (s.writeByte a v) := by
    obtain ⟨rfl, ⟨r, h, rfl, rfl⟩ | ⟨h, rfl⟩⟩ |
      ⟨rfl, ⟨p, h, rfl, rfl⟩ | ⟨h, rfl⟩ | ⟨n8, h, rfl, rfl⟩ | ⟨h, rfl, rfl⟩⟩ := hform <;>
      exact exec_of_form h s
  refine ⟨fun _ => encode_of_form, encode_of_form, fun _ => encode_of_form, encode_of_form, fun _ => encode_of_form,
    encode_of_form, fun hacc => ?accepted, fun hacc => ?declined⟩
  case accepted =>
    obtain ⟨t, ht, hregs⟩ := State.writeByte_accepted hacc
    exact ⟨t, ht, hexec.trans (perform_ok ht), hregs⟩
  case declined =>
    obtain ⟨t, ht⟩ := State.writeByte_declined hacc
    exact ⟨t, ht, hexec.trans (perform_error ht)⟩

/-- Settles O7: the access comes first, at the old HL, and the step of HL after it; an access that is declined ends the
instruction before the step. -/
theorem loadsAndStoresThatStepHL : Obligations.LoadsAndStoresThatStepHL := by
  intro i s delta
  refine ⟨encode_of_form, encode_of_form, encode_of_form, encode_of_form, fun hform v hv => ?load, fun hform => ?readDeclined,
    fun hform hacc => ?store, fun hform => ?writeDeclined⟩
  case load =>
    have hexec : exec i s = loadAThenStep delta s := by
      obtain ⟨h, rfl⟩ | ⟨h, rfl⟩ := hform <;> exact exec_of_form h s
    exact ⟨_, hexec.trans (loadAThenStep_next delta hv), rfl, rfl, State.pair_setPair _ .HL _ nofun,
      (s.keepsRegsBut_setReg .A v).trans (State.keepsRegsBut_setHL _ _), rfl⟩
  case readDeclined =>
    obtain h | h := hform <;> exact readDeclined_of_exec (exec_of_form h s)
  case store =>
    have hexec : exec i s = storeAThenStep delta s := by
      obtain ⟨h, rfl⟩ | ⟨h, rfl⟩ := hform <;> exact exec_of_form h s
    obtain ⟨t, ht, hregs⟩ := State.writeByte_accepted hacc
    exact ⟨t, _, ht, hexec.trans (storeAThenStep_next delta ht), t.changedRegs_setPair .HL _ 2,
      t.pair_setPair .HL _ nofun, (State.keepsRegsBut_nil hregs).trans (t.keepsRegsBut_setHL _),
      (State.setPair_regs_f (p := .HL) nofun t _).trans (congrArg Regs.f hregs)⟩
  case writeDeclined =>
    obtain h | h := hform <;> exact writeDeclined_of_exec (exec_of_form h s)

end Sys2Proof.Machine
end

section
/-! SUPPORT. When the two byte accesses of a word complete and what a declined one ends in, and what the pairs and the
flags read after an update; with them the obligations on the 16-bit loads and the stack. -/

namespace Sys2Proof.Machine

/-! ## Word accesses that complete and that are declined (R11, R12, R101) -/

/-- R11, R101: a word write that is accepted is its two byte writes in turn, and no CPU register changes. -/
theorem State.writeWord_accepted {s : State} {a v : Word} (h : s.acceptsWord a v = true) :
    ∃ u t, s.writeByte a (lowByte v) = .ok u ∧ u.writeByte (a + 1) (highByte v) = .ok t ∧ s.writeWord a v = .ok t ∧
      t.regs = s.regs := by
  obtain ⟨hlo, hhi⟩ := Bool.and_eq_true_iff.mp h
  obtain ⟨u, hu, hregs⟩ := State.writeByte_accepted hlo
  rw [hu] at hhi
  obtain ⟨t, ht, hregs'⟩ := State.writeByte_accepted hhi
  exact ⟨u, t, hu, ht, State.writeWord_ok hu ht, hregs'.trans hregs⟩

/-- R11, R101: an instruction whose one access is a word write, made from the state w, ends as that write does. -/
theorem wordWrite_of_exec {i : Instr} {s w : State} {m : Nat} {a v : Word} (h : exec i s = perform m (w.writeWord a v)) :
    (w.acceptsWord a v = true →
        ∃ u t, w.writeByte a (lowByte v) = .ok u ∧ u.writeByte (a + 1) (highByte v) = .ok t ∧
          exec i s = .next { t with cost := m } ∧ t.regs = w.regs) ∧
      ∀ t, w.writeWord a v = .error t → exec i s = .next t := by
  refine ⟨fun hacc => ?accepted, fun t ht => h.trans (perform_error ht)⟩
  case accepted =>
    obtain ⟨u, t, hu, ht, hword, hregs⟩ := State.writeWord_accepted hacc
    exact ⟨u, t, hu, ht, h.trans (perform_ok hword), hregs⟩

theorem State.pop16_declined_low {s : State} (h : s.busRead s.regs.sp = none) :
    s.pop16 = .error (s.raise (.unmappedAccess s.regs.sp .read)) := by
  simp only [State.pop16, State.readWord, State.readByte_declined h]
  rfl

theorem State.pop16_declined_high {s : State} {lo : Byte} (hlo : s.busRead s.regs.sp = some lo)
    (h : s.busRead (s.regs.sp + 1) = none) :
    s.pop16 = .error (s.raise (.unmappedAccess (s.regs.sp + 1) .read)) := by
  simp only [State.pop16, State.readWord, State.readByte_ok hlo, State.readByte_declined h]
  rfl

/-- R12: an instruction that begins with a pop ends with it where a byte is declined, before SP is raised. -/
theorem popDeclined_of_exec {i : Instr} {s : State} {m : Nat} {k : Word × State → Act State}
    (h : exec i s = perform m (s.pop16 >>= k)) : popDeclined i s :=
  ⟨fun hnone => h.trans (perform_bind_error (State.pop16_declined_low hnone) k),
    fun _ hlo hnone => h.trans (perform_bind_error (State.pop16_declined_high hlo hnone) k)⟩

/-! ## What pairs and flags read after an update -/

theorem State.keepsRegsBut_setFlags (s : State) (z n h c : Bool) : s.keepsRegsBut (s.setFlags z n h c) [] :=
  ⟨fun r _ => s.reg_setFlags z n h c r, rfl, rfl⟩

/-- R207: AF takes the high byte in A, and the low byte in F but for its low four bits. -/
theorem State.setPair_AF_joinBytes (s : State) (hi lo : Byte) :
    (s.setPair .AF (joinBytes hi lo)).regs.a = hi ∧ (s.setPair .AF (joinBytes hi lo)).regs.f = lo &&& 0xF0 :=
  ⟨highByte_joinBytes hi lo, congrArg (· &&& 0xF0) (lowByte_joinBytes hi lo)⟩

/-! ## The obligations -/

/-- Settles O8: each form writes the sum to its destination and then the four flags, which reach no register but F. -/
theorem stackPointerPlusDisplacement : Obligations.StackPointerPlusDisplacement := by
  intro i s e8 h c
  refine ⟨fun hform => ⟨encode_of_form hform, _, exec_of_form hform s, ?toHL⟩,
    fun hform => ⟨encode_of_form hform, _, exec_of_form hform s, ?toSP⟩⟩
  case toHL =>
    exact ⟨rfl, s.pair_setPair .HL _ nofun, (s.keepsRegsBut_setHL _).trans (State.keepsRegsBut_setFlags _ false false h c),
      State.setFlags_flagsAre _ false false h c⟩
  case toSP =>
    exact ⟨rfl, rfl, fun r => (State.reg_setFlags _ false false h c r).trans (s.reg_setSp _ r), rfl,
      State.setFlags_flagsAre _ false false h c⟩

/-- Settles O9: both forms are one word write, PUSH's from the state with SP lowered, which completes where it is accepted
(`State.writeWord_accepted`). -/
theorem wordStores : Obligations.WordStores := by
  refine fun i s => ⟨fun n16 hform => ?storeSP, fun qq hform => ?push⟩
  case storeSP => exact ⟨encode_of_form hform, wordWrite_of_exec (exec_of_form hform s)⟩
  case push =>
    refine ⟨encode_of_form hform, ?_⟩
    rintro a v rfl rfl
    exact wordWrite_of_exec (exec_of_form hform s)

/-- Settles O10: the next state raises SP and then writes the pair, which is never SP (R136), so SP is the raised one; AF
alone among the pairs masks what it takes. -/
theorem popLoadsThePair : Obligations.PopLoadsThePair := by
  intro i s qq hform
  have hSP : qq ≠ .SP := by simpa [hform, namesLegalPair] using form_namesLegalPair i
  refine ⟨encode_of_form hform, fun lo hi hlo hhi => ?next, popDeclined_of_exec (exec_of_form hform s)⟩
  case next =>
    refine ⟨_, (exec_of_form hform s).trans (popPair_next qq hlo hhi), State.changedRegs_setPair _ qq _ 3,
      State.setPair_regs_sp hSP _ _, State.setPair_regs_pc _ qq _,
      fun r hr => (State.reg_setPair_of_notMem hr _ _).trans (s.reg_setSp _ r), ?_⟩
    by_cases hAF : qq = .AF
    · subst hAF
      exact State.setPair_AF_joinBytes _ hi lo
    · rw [if_neg hAF]
      exact ⟨State.pair_setPair _ qq _ hAF, State.setPair_regs_f hAF _ _⟩

end Sys2Proof.Machine
end

section
/-! SUPPORT. What an instruction that writes one register and the four flags ends in, the ALU operations by operand form,
and their results and carries in arithmetic; with them the obligations on 8-bit arithmetic and logic. -/

namespace Sys2Proof.Machine

/-! ## Updates of a register and the flags -/

theorem State.flagC_congr {s t : State} (h : t.regs.f = s.regs.f) : t.flagC = s.flagC :=
  congrArg (·.getLsbD 4) h

@[simp] theorem State.setReg_flagC (s : State) (r : Reg8) (v : Byte) : (s.setReg r v).flagC = s.flagC :=
  State.flagC_congr (s.setReg_regs_f r v)

/-- R10: the next state of an instruction that writes the four flags alone. -/
theorem State.setFlags_updates (s : State) (z n h c : Bool) (m : Nat) :
    s.changedRegs { s.setFlags z n h c with cost := m } m ∧ s.keepsRegsBut { s.setFlags z n h c with cost := m } [] ∧
      State.flagsAre { s.setFlags z n h c with cost := m } z n h c :=
  ⟨rfl, s.keepsRegsBut_setFlags z n h c, s.setFlags_flagsAre z n h c⟩

/-- R10, R220: the next state of an instruction that writes one register and then the four flags. -/
theorem State.setReg_setFlags_updates (s : State) (r : Reg8) (v : Byte) (z n h c : Bool) (m : Nat) :
    s.changedRegs { (s.setReg r v).setFlags z n h c with cost := m } m ∧
      s.keepsRegsBut { (s.setReg r v).setFlags z n h c with cost := m } [r] ∧
        State.reg { (s.setReg r v).setFlags z n h c with cost := m } r = v ∧
          State.flagsAre { (s.setReg r v).setFlags z n h c with cost := m } z n h c := by
  refine ⟨?changed, (s.keepsRegsBut_setReg r v).trans (State.keepsRegsBut_setFlags _ z n h c), ?reg,
    State.setFlags_flagsAre _ z n h c⟩
  case changed => cases r <;> rfl
  case reg => exact (State.reg_setFlags _ z n h c r).trans (by rw [s.reg_setReg, if_pos rfl])

/-! ## The three operand forms (R220) -/

theorem aluEncoded_of_form (i : Instr) (op : AluOp) : aluEncoded i op :=
  ⟨fun _ => encode_of_form, encode_of_form, fun _ => encode_of_form⟩

theorem exec_of_aluOperand {i : Instr} {s : State} {op : AluOp} {b : Byte} {m : Nat} (h : aluOperand i s op b m) :
    exec i s = .next { s.alu op b with cost := m } := by
  obtain ⟨r, hform, rfl, rfl⟩ | ⟨hform, hread, rfl⟩ | ⟨hform, rfl⟩ := h
  · exact exec_of_form hform s
  · exact (exec_of_form hform s).trans (aluAtHL_next op hread)
  · exact exec_of_form hform s

theorem readDeclined_of_aluAtHL {i : Instr} {op : AluOp} (h : i.form = .aluAtHL op) (s : State) :
    readDeclined i s (s.pair .HL) :=
  readDeclined_of_exec (exec_of_form h s)

/-- R220, R245: whatever the operand form, A takes the result, but for CP, and F the flags. -/
theorem alu_completes {i : Instr} {s : State} {op : AluOp} {b : Byte} {m : Nat} {out : AluOut}
    (h : aluOperand i s op b m) (hout : aluOut op s.regs.a b s.flagC = out) :
    ∃ t, exec i s = .next t ∧ s.changedRegs t m ∧ s.keepsRegsBut t [.A] ∧
      t.regs.a = (if op = .cp then s.regs.a else out.res) ∧ t.flagsAre out.z out.n out.h out.c := by
  refine ⟨_, exec_of_aluOperand h, ?_⟩
  by_cases hcp : op = .cp
  · obtain ⟨hchanged, ⟨hreg, hsp, hpc⟩, hflags⟩ := s.setFlags_updates out.z out.n out.h out.c m
    rw [State.alu, hout, if_pos hcp, if_pos hcp]
    exact ⟨hchanged, ⟨fun r _ => hreg r nofun, hsp, hpc⟩, rfl, hflags⟩
  · rw [State.alu, hout, if_neg hcp, if_neg hcp]
    exact s.setReg_setFlags_updates .A _ _ _ _ _ m

/-! ## Results and flags in arithmetic (R221, R222, R223, R252) -/

theorem byte_beq_zero (v : Byte) : (v == 0) = decide (v.toNat = 0) :=
  decide_eq_decide.mpr BitVec.toNat_inj.symm

theorem toNat_add8_res (a b : Byte) (cin : Bool) :
    (add8 a b cin).res.toNat = (a.toNat + b.toNat + cin.toNat) % 256 := BitVec.toNat_ofNat _ _

theorem add8_z (a b : Byte) (cin : Bool) :
    (add8 a b cin).z = decide ((a.toNat + b.toNat + cin.toNat) % 256 = 0) := by
  rw [← toNat_add8_res]
  exact byte_beq_zero _

theorem toNat_sub8_res (a b : Byte) (cin : Bool) :
    (sub8 a b cin).res.toNat = (a.toNat + 512 - b.toNat - cin.toNat) % 256 := by
  have := cin.toNat_le
  simp only [sub8, BitVec.toNat_ofInt]
  omega

theorem sub8_z (a b : Byte) (cin : Bool) :
    (sub8 a b cin).z = decide ((a.toNat + 512 - b.toNat - cin.toNat) % 256 = 0) := by
  rw [← toNat_sub8_res]
  exact byte_beq_zero _

/-- R222: the subtraction borrows where the operand and the borrow in are more than the minuend. -/
theorem sub8_c (a b : Byte) (cin : Bool) : (sub8 a b cin).c = decide (a.toNat < b.toNat + cin.toNat) := by
  rw [sub8, decide_eq_decide]
  omega

theorem toNat_sub_one (v : Byte) : (v - 1).toNat = (v.toNat + 255) % 256 := by
  rw [BitVec.toNat_sub, Nat.add_comm]
  rfl

/-- R252: after a subtraction both corrections are subtracted. -/
theorem toNat_daaOut_of_subtraction (a : Byte) (h c : Bool) :
    (daaOut a true h c).1.toNat = (a.toNat + 256 - ((if c then 0x60 else 0) + (if h then 0x06 else 0))) % 256 := by
  cases h <;> cases c <;> simp [daaOut, BitVec.toNat_sub] <;> omega

/-- R252: after an addition both corrections are added. The low digit is tested after the high correction, which leaves
it as it was. -/
theorem toNat_daaOut_of_addition (a : Byte) (h c : Bool) :
    (daaOut a false h c).1.toNat =
      (a.toNat + ((if c || decide (a.toNat > 0x99) then 0x60 else 0) +
        (if h || decide (a.toNat % 16 > 9) then 0x06 else 0))) % 256 := by
  have lowDigit (high : Bool) : (if high then a + 0x60 else a).toNat % 16 = a.toNat % 16 := by
    cases high
    · rfl
    · rw [if_pos rfl, BitVec.toNat_add, show (0x60 : Byte).toNat = 0x60 from rfl]
      omega
  simp only [daaOut, Bool.false_eq_true, if_false, lowDigit]
  generalize (c || decide (a.toNat > 0x99)) = high
  generalize (h || decide (a.toNat % 16 > 9)) = low
  have hlt : a.toNat < 256 := a.isLt
  cases high <;> cases low <;> simp [BitVec.toNat_add, Nat.add_assoc, Nat.mod_eq_of_lt hlt]

/-! ## The operations that add and those that subtract (R221, R222) -/

/-- R221: an ALU operation that adds, with its carry in. -/
theorem add_completes {i : Instr} {s : State} {op : AluOp} {b : Byte} {m : Nat} {cin : Bool}
    (h : aluOperand i s op b m) (hcp : op ≠ .cp) (hout : aluOut op s.regs.a b s.flagC = add8 s.regs.a b cin) :
    ∃ t, exec i s = .next t ∧ s.changedRegs t m ∧ s.keepsRegsBut t [.A] ∧
      t.regs.a.toNat = (s.regs.a.toNat + b.toNat + cin.toNat) % 256 ∧
      t.flagsAre (decide ((s.regs.a.toNat + b.toNat + cin.toNat) % 256 = 0)) false
        (decide (s.regs.a.toNat % 16 + b.toNat % 16 + cin.toNat > 0x0F))
        (decide (s.regs.a.toNat + b.toNat + cin.toNat > 0xFF)) := by
  obtain ⟨t, hexec, hchanged, hkeeps, ha, hflags⟩ := alu_completes h hout
  rw [if_neg hcp] at ha
  rw [add8_z] at hflags
  exact ⟨t, hexec, hchanged, hkeeps, by rw [ha, toNat_add8_res], hflags⟩

/-- R222: an ALU operation that subtracts, with its borrow in; CP leaves A. -/
theorem subtract_completes {i : Instr} {s : State} {op : AluOp} {b : Byte} {m : Nat} {cin : Bool}
    (h : aluOperand i s op b m) (hout : aluOut op s.regs.a b s.flagC = sub8 s.regs.a b cin) :
    ∃ t, exec i s = .next t ∧ s.changedRegs t m ∧ s.keepsRegsBut t [.A] ∧
      t.regs.a.toNat =
        (if op = .cp then s.regs.a.toNat else (s.regs.a.toNat + 512 - b.toNat - cin.toNat) % 256) ∧
      t.flagsAre (decide ((s.regs.a.toNat + 512 - b.toNat - cin.toNat) % 256 = 0)) true
        (decide (s.regs.a.toNat % 16 < b.toNat % 16 + cin.toNat))
        (decide (s.regs.a.toNat < b.toNat + cin.toNat)) := by
  obtain ⟨t, hexec, hchanged, hkeeps, ha, hflags⟩ := alu_completes h hout
  rw [sub8_z, sub8_c] at hflags
  exact ⟨t, hexec, hchanged, hkeeps, by rw [ha, apply_ite BitVec.toNat, toNat_sub8_res], hflags⟩

/-! ## INC, DEC and DAA (R248 to R252) -/

/-- R248, R250: an instruction that writes a register and then the flags but for C. -/
theorem regThenFlags_completes {i : Instr} {s : State} {r : Reg8} {w : Byte} {m : Nat} {z n h : Bool}
    (hexec : exec i s = finish m ((s.setReg r w).setFlags z n h (s.setReg r w).flagC)) :
    ∃ t, exec i s = .next t ∧ s.changedRegs t m ∧ s.keepsRegsBut t [r] ∧ t.reg r = w ∧ t.flagsAre z n h s.flagC := by
  rw [s.setReg_flagC] at hexec
  exact ⟨_, hexec, s.setReg_setFlags_updates r w z n h s.flagC m⟩

/-- An instruction whose first read completes goes on with the byte. -/
theorem perform_readByte_ok {m : Nat} {s : State} {a : Word} {v : Byte} (h : s.busRead a = some v)
    (k : Byte → Act State) : perform m (s.readByte a >>= k) = perform m (k v) := by
  rw [State.readByte_ok h]
  rfl

/-- R249, R251, R101: an instruction that writes a byte and then the flags, where the write is accepted. -/
theorem writeThenFlags_completes {i : Instr} {s : State} {a : Word} {w : Byte} {m : Nat} {z n h : Bool}
    (hexec : exec i s = perform m (s.writeByte a w >>= fun t => .ok (t.setFlags z n h t.flagC)))
    (hacc : s.accepts a w = true) :
    ∃ t u, s.writeByte a w = .ok t ∧ exec i s = .next u ∧ t.changedRegs u m ∧ s.keepsRegsBut u [] ∧
      u.flagsAre z n h s.flagC := by
  obtain ⟨t, ht, hregs⟩ := State.writeByte_accepted hacc
  obtain ⟨hchanged, hkeeps, hflags⟩ := t.setFlags_updates z n h t.flagC m
  refine ⟨t, _, ht, ?next, hchanged, (State.keepsRegsBut_nil hregs).trans hkeeps, ?flags⟩
  case next =>
    rw [hexec, ht]
    rfl
  case flags =>
    rw [← State.flagC_congr (congrArg Regs.f hregs)]
    exact hflags

/-- R252: DAA writes the adjusted A and then the flags. -/
theorem daa_completes {i : Instr} (h : i.form = .daa) (s : State) :
    ∃ t, exec i s = .next t ∧ s.changedRegs t 1 ∧ s.keepsRegsBut t [.A] ∧
      t.regs.a = (daaOut s.regs.a s.flagN s.flagH s.flagC).1 ∧
      t.flagsAre (decide (t.regs.a = 0)) s.flagN false (daaOut s.regs.a s.flagN s.flagH s.flagC).2 :=
  ⟨_, exec_of_form h s, s.setReg_setFlags_updates .A _ _ s.flagN false _ 1⟩

/-! ## The obligations -/

/-- Settles O12: ADD adds with carry in 0, ADC with the carry flag. -/
theorem addAndAddWithCarry : Obligations.AddAndAddWithCarry := by
  refine ⟨fun i s op b m h hop => ⟨aluEncoded_of_form i op, ?_⟩, fun i s op h _ => readDeclined_of_aluAtHL h s⟩
  obtain rfl | rfl := hop
  · exact add_completes (cin := false) h nofun rfl
  · exact add_completes (cin := s.flagC) h nofun rfl

/-- Settles O13: SUB and CP subtract with borrow in 0, SBC with the carry flag. -/
theorem subtractAndCompare : Obligations.SubtractAndCompare := by
  refine ⟨fun i s op b m h hop => ⟨aluEncoded_of_form i op, ?_⟩, fun i s op h _ => readDeclined_of_aluAtHL h s⟩
  obtain rfl | rfl | rfl := hop
  · exact subtract_completes (cin := false) h rfl
  · exact subtract_completes (cin := s.flagC) h rfl
  · exact subtract_completes (cin := false) h rfl

/-- Settles O14: A takes the bitwise operation, whose bits are those of its operands. -/
theorem logicOperations : Obligations.LogicOperations := by
  refine ⟨fun i s op b m h hop => ⟨aluEncoded_of_form i op, ?_⟩, fun i s op h _ => readDeclined_of_aluAtHL h s⟩
  obtain ⟨t, hexec, hchanged, hkeeps, ha, hflags⟩ := alu_completes h rfl
  refine ⟨t, hexec, hchanged, hkeeps, fun k _ => ?bits, ?flags⟩
  case bits => obtain rfl | rfl | rfl := hop <;> simp [ha, aluOut, and8, xor8, or8]
  case flags =>
    rw [ha]
    obtain rfl | rfl | rfl := hop <;> exact hflags

/-- Settles O15: the register forms write the byte and then the flags; the forms at HL read, write by the bus and then
write the flags, and an access that is declined ends them. -/
theorem incrementAndDecrement : Obligations.IncrementAndDecrement := by
  refine ⟨fun i s r => ⟨fun h => ⟨encode_of_form h, ?incReg⟩, fun h => ⟨encode_of_form h, ?decReg⟩⟩,
    fun i s v hv => ⟨fun h => ⟨encode_of_form h, ?incAtHL⟩, fun h => ⟨encode_of_form h, ?decAtHL⟩,
      fun h => ?incDeclined, fun h => ?decDeclined⟩,
    fun i s h => ?readDeclined⟩
  case incReg =>
    obtain ⟨t, hexec, hchanged, hkeeps, hreg, hflags⟩ := regThenFlags_completes (exec_of_form h s)
    rw [← hreg] at hflags
    exact ⟨t, hexec, hchanged, hkeeps, by rw [hreg, BitVec.toNat_add]; rfl, hflags⟩
  case decReg =>
    obtain ⟨t, hexec, hchanged, hkeeps, hreg, hflags⟩ := regThenFlags_completes (exec_of_form h s)
    rw [← hreg] at hflags
    exact ⟨t, hexec, hchanged, hkeeps, by rw [hreg, toNat_sub_one], hflags⟩
  case incAtHL => exact writeThenFlags_completes ((exec_of_form h s).trans (perform_readByte_ok hv _))
  case decAtHL => exact writeThenFlags_completes ((exec_of_form h s).trans (perform_readByte_ok hv _))
  case incDeclined => exact writeDeclined_of_exec ((exec_of_form h s).trans (perform_readByte_ok hv _))
  case decDeclined => exact writeDeclined_of_exec ((exec_of_form h s).trans (perform_readByte_ok hv _))
  case readDeclined => obtain h | h := h <;> exact readDeclined_of_exec (exec_of_form h s)

/-- Settles O16: N says whether the corrections are added or subtracted, and so which tests make them. -/
theorem decimalAdjust : Obligations.DecimalAdjust := by
  intro i s h a high low correction
  obtain ⟨t, hexec, hchanged, hkeeps, ha, hflags⟩ := daa_completes h s
  refine ⟨encode_of_form h, t, hexec, hchanged, hkeeps, ?a, ?flags⟩
  case a =>
    rw [ha]
    cases hn : s.flagN
    · simp [a, high, low, correction, hn, toNat_daaOut_of_addition]
    · simp [a, high, low, correction, hn, toNat_daaOut_of_subtraction]
  case flags =>
    have carry : (daaOut s.regs.a s.flagN s.flagH s.flagC).2 = (s.flagC || high) := by
      cases hn : s.flagN <;> simp [daaOut, high, hn, a]
    rwa [carry] at hflags

/-- Settles O18: each form writes the flags, and CPL the complement of A before them. -/
theorem flagOperations : Obligations.FlagOperations := by
  refine fun i s => ⟨fun h => ⟨encode_of_form h, _, exec_of_form h s, ?cpl⟩,
    fun h => ⟨encode_of_form h, _, exec_of_form h s, s.setFlags_updates ..⟩,
    fun h => ⟨encode_of_form h, _, exec_of_form h s, s.setFlags_updates ..⟩⟩
  case cpl =>
    obtain ⟨hchanged, hkeeps, ha, hflags⟩ := s.setReg_setFlags_updates .A (~~~s.regs.a) s.flagZ true true s.flagC 1
    exact ⟨hchanged, hkeeps, (congrArg BitVec.toNat ha).trans BitVec.toNat_not, hflags⟩

end Sys2Proof.Machine
end

section
/-! SUPPORT. What an instruction that writes a pair alone ends in; with it the obligation on 16-bit arithmetic. -/

namespace Sys2Proof.Machine

/-- R31: the next state of an instruction that writes one pair other than AF, and no flag. -/
theorem State.setPair_updates (s : State) {p : Pair} (hAF : p ≠ .AF) (v : Word) (m : Nat) :
    s.changedRegs { s.setPair p v with cost := m } m ∧ State.pair { s.setPair p v with cost := m } p = v ∧
      (∀ r, r ∉ pairRegs p → State.reg { s.setPair p v with cost := m } r = s.reg r) ∧
        (p ≠ .SP → (s.setPair p v).regs.sp = s.regs.sp) ∧ (s.setPair p v).regs.f = s.regs.f ∧
          (s.setPair p v).regs.pc = s.regs.pc :=
  ⟨s.changedRegs_setPair p v m, s.pair_setPair p v hAF, fun _ hr => State.reg_setPair_of_notMem hr s v,
    fun hSP => State.setPair_regs_sp hSP s v, State.setPair_regs_f hAF s v, s.setPair_regs_pc p v⟩

/-- R273: a decrement adds 65535 modulo 2^16. -/
theorem toNat_word_sub_one (v : Word) : (v - 1).toNat = (v.toNat + 65535) % 65536 := by
  rw [BitVec.toNat_sub, Nat.add_comm]
  rfl

/-- Settles O19: ADD HL,rr writes the sum to HL and then the flags, which reach no register but F; INC rr and DEC rr are one
write of a pair, which is never AF (R135) and so reads the word back and leaves F. -/
theorem sixteenBitArithmetic : Obligations.SixteenBitArithmetic := by
  refine fun i s rr => ⟨fun h => ⟨encode_of_form h, _, exec_of_form h s, ?add⟩, encode_of_form, encode_of_form,
    fun delta hform => ?step⟩
  case add =>
    exact ⟨rfl, (s.keepsRegsBut_setHL _).trans (State.keepsRegsBut_setFlags _ s.flagZ false _ _),
      (congrArg BitVec.toNat (s.pair_setPair .HL _ nofun)).trans (BitVec.toNat_add ..), State.setFlags_flagsAre _ s.flagZ false _ _⟩
  case step =>
    have hAF : rr ≠ .AF := by
      obtain ⟨h, -⟩ | ⟨h, -⟩ := hform <;> simpa [h, namesLegalPair] using form_namesLegalPair i
    obtain ⟨v, hexec, hv⟩ : ∃ v, exec i s = finish 2 (s.setPair rr v) ∧ v.toNat = ((s.pair rr).toNat + delta) % 65536 := by
      obtain ⟨h, rfl⟩ | ⟨h, rfl⟩ := hform
      · exact ⟨_, exec_of_form h s, BitVec.toNat_add ..⟩
      · exact ⟨_, exec_of_form h s, toNat_word_sub_one _⟩
    obtain ⟨hchanged, hpair, hframe⟩ := s.setPair_updates hAF v 2
    exact ⟨_, hexec, hchanged, (congrArg BitVec.toNat hpair).trans hv, hframe⟩

end Sys2Proof.Machine
end

section
/-! SUPPORT. The rotates and shifts in arithmetic, and the byte that BIT, RES and SET see and leave bit by bit; with them
the obligations on rotates, shifts and bits. -/

namespace Sys2Proof.Machine

/-! ## Rotates and shifts in arithmetic (R281) -/

/-- The or of a byte shifted left by k and one below 2^k is their sum, for they have no bit in common. -/
theorem toNat_shiftLeft_or {k : Nat} (v : Byte) {lo : Byte} (hlo : lo.toNat < 2 ^ k) :
    (v <<< k ||| lo).toNat = 2 ^ k * v.toNat % 256 + lo.toNat := by
  have disjoint : v <<< k &&& lo = 0#8 := by
    refine BitVec.eq_of_getLsbD_eq fun i _ => ?_
    rw [BitVec.getLsbD_and, BitVec.getLsbD_shiftLeft, BitVec.getLsbD_zero]
    by_cases hi : i < k
    · simp [hi]
    · have : lo.getLsbD i = false :=
        Nat.testBit_lt_two_pow (hlo.trans_le (Nat.pow_le_pow_right Nat.two_pos (Nat.le_of_not_lt hi)))
      simp [this]
  rw [← BitVec.add_eq_or_of_and_eq_zero _ _ disjoint, BitVec.toNat_add_of_and_eq_zero disjoint, BitVec.toNat_shiftLeft,
    Nat.shiftLeft_eq, Nat.mul_comm]

theorem toNat_ushiftRight (v : Byte) (k : Nat) : (v >>> k).toNat = v.toNat / 2 ^ k := by
  rw [BitVec.toNat_ushiftRight, Nat.shiftRight_eq_div_pow]

theorem toNat_zeroExtend_ofBool (c : Bool) : ((BitVec.ofBool c).zeroExtend 8).toNat = c.toNat := by
  cases c <;> rfl

/-- R281: the result of a rotate or shift, whose two parts an or joins. -/
theorem toNat_shiftRes (op : ShiftOp) (v : Byte) (cin : Bool) :
    (shiftRes op v cin).toNat = (shiftByArithmetic op v.toNat cin.toNat).1 := by
  have hv : v.toNat < 256 := v.isLt
  have hcin := cin.toNat_le
  have signBit : v &&& (0x80 : Byte) = (v >>> 7) <<< 7 := (BitVec.shiftLeft_ushiftRight (x := v) (n := 7)).symm
  cases op <;> dsimp only [shiftRes, shiftByArithmetic]
  case rlc => rw [toNat_shiftLeft_or] <;> simp only [toNat_ushiftRight] <;> omega
  case rrc => rw [BitVec.or_comm, toNat_shiftLeft_or] <;> simp only [toNat_ushiftRight] <;> omega
  case rl => rw [toNat_shiftLeft_or] <;> simp only [toNat_zeroExtend_ofBool] <;> omega
  case rr =>
    rw [BitVec.or_comm, toNat_shiftLeft_or] <;> simp only [toNat_ushiftRight, toNat_zeroExtend_ofBool] <;> omega
  case sla => rw [BitVec.toNat_shiftLeft, Nat.shiftLeft_eq, Nat.mul_comm]
  case sra => rw [signBit, BitVec.or_comm, toNat_shiftLeft_or] <;> simp only [toNat_ushiftRight] <;> omega
  case swap => rw [toNat_shiftLeft_or] <;> simp only [toNat_ushiftRight] <;> omega
  case srl => exact toNat_ushiftRight v 1

/-- R281: the carry out of a rotate or shift is the bit that leaves the byte. -/
theorem shiftCarry_eq (op : ShiftOp) (v : Byte) (cin : Nat) :
    shiftCarry op v = (shiftByArithmetic op v.toNat cin).2 := by
  have hv : v.toNat < 256 := v.isLt
  have bit7 : v.getLsbD 7 = decide (v.toNat / 128 = 1) := by
    rw [Bool.eq_iff_iff, getLsbD_iff, decide_eq_true_iff]
    omega
  have bit0 : v.getLsbD 0 = decide (v.toNat % 2 = 1) := by
    rw [Bool.eq_iff_iff, getLsbD_iff, decide_eq_true_iff]
    omega
  cases op
  case rlc | rl | sla => exact bit7
  case rrc | rr | sra | srl => exact bit0
  case swap => rfl

/-- R281 to R300: an instruction that writes a rotate or shift of a register and then Z, N = H = 0 and the carry out. -/
theorem shift_completes {i : Instr} {s : State} {op : ShiftOp} {r : Reg8} {m : Nat} {z : Bool}
    (hexec : exec i s = finish m ((s.setReg r (shiftRes op (s.reg r) s.flagC)).setFlags z false false
      (shiftCarry op (s.reg r)))) :
    ∃ t, exec i s = .next t ∧ s.changedRegs t m ∧ s.keepsRegsBut t [r] ∧
      (t.reg r).toNat = (shiftByArithmetic op (s.reg r).toNat s.flagC.toNat).1 ∧
      t.flagsAre z false false (shiftByArithmetic op (s.reg r).toNat s.flagC.toNat).2 := by
  rw [shiftCarry_eq op _ s.flagC.toNat] at hexec
  obtain ⟨hchanged, hkeeps, hreg, hflags⟩ := s.setReg_setFlags_updates r (shiftRes op (s.reg r) s.flagC) z false false
    (shiftByArithmetic op (s.reg r).toNat s.flagC.toNat).2 m
  exact ⟨_, hexec, hchanged, hkeeps, (congrArg BitVec.toNat hreg).trans (toNat_shiftRes ..), hflags⟩

/-! ## The bits of a byte (R302 to R307) -/

theorem getLsbD_bitMask (b : Fin 8) (k : Nat) : (1#8 <<< b.val).getLsbD k = decide (k = b.val) := by
  rw [← BitVec.twoPow_eq, BitVec.getLsbD_twoPow]
  simp [eq_comm]

theorem getLsbD_clearBit (v : Byte) (b : Fin 8) {k : Nat} (hk : k < 8) :
    (clearBit v b).getLsbD k = if k = b.val then false else v.getLsbD k := by
  rw [clearBit, BitVec.getLsbD_and, BitVec.getLsbD_not, getLsbD_bitMask]
  split <;> simp [*]

theorem getLsbD_setBit (v : Byte) (b : Fin 8) {k : Nat} (hk : k < 8) :
    (setBit v b).getLsbD k = if k = b.val then true else v.getLsbD k := by
  rw [setBit, BitVec.getLsbD_or, getLsbD_bitMask]
  split <;> simp [*]

/-! ## The obligations -/

/-- Settles O20: each form writes the result and then the flags, both of them arithmetic (`toNat_shiftRes`,
`shiftCarry_eq`); the form at HL writes by the bus, and an access that is declined ends it. -/
theorem rotatesAndShifts : Obligations.RotatesAndShifts := by
  refine ⟨fun i s op h => ⟨encode_of_form h, shift_completes (r := .A) (exec_of_form h s)⟩,
    fun i s op r h => ⟨encode_of_form h, ?shiftReg⟩,
    fun i s op v w h hv => ?shiftAtHL,
    fun i s op h => readDeclined_of_exec (exec_of_form h s)⟩
  case shiftReg =>
    obtain ⟨t, hexec, hchanged, hkeeps, hreg, hflags⟩ := shift_completes (exec_of_form h s)
    rw [byte_beq_zero, toNat_shiftRes] at hflags
    exact ⟨t, hexec, hchanged, hkeeps, hreg, hflags⟩
  case shiftAtHL =>
    intro out hw
    obtain rfl : w = shiftRes op v s.flagC := BitVec.eq_of_toNat_eq (hw.trans (toNat_shiftRes ..).symm)
    refine ⟨encode_of_form h, fun hacc => ?accepted,
      writeDeclined_of_exec ((exec_of_form h s).trans (perform_readByte_ok hv _))⟩
    obtain ⟨t, ht, hregs⟩ := State.writeByte_accepted hacc
    obtain ⟨hchanged, hkeeps, hflags⟩ := t.setFlags_updates (decide (shiftRes op v s.flagC = 0)) false false
      (shiftCarry op v) 4
    exact ⟨t, _, ht, (exec_of_form h s).trans (shiftAtHL_next hv ht), hchanged,
      (State.keepsRegsBut_nil hregs).trans hkeeps, shiftCarry_eq op v s.flagC.toNat ▸ hflags⟩

/-- Settles O21: BIT writes the flags alone; RES and SET write the byte whose bits are the old ones but for bit b, which
determines it, and an access that is declined ends the form at HL. -/
theorem bitOperations : Obligations.BitOperations := by
  refine ⟨fun i s b r => ⟨fun h => ⟨encode_of_form h, _, exec_of_form h s, s.setFlags_updates ..⟩, encode_of_form,
      encode_of_form, fun on hform => ?reg⟩,
    fun i s b v hv => ⟨fun h => ⟨encode_of_form h, _, (exec_of_form h s).trans (bitAtHL_next b hv),
      s.setFlags_updates ..⟩, encode_of_form, encode_of_form, fun on w hform hbits => ?atHL⟩,
    fun i s b h => ?readDeclined⟩
  case reg =>
    obtain ⟨w, hexec, hw⟩ : ∃ w, exec i s = finish 2 (s.setReg r w) ∧
        ∀ k < 8, w.getLsbD k = if k = b.val then on else (s.reg r).getLsbD k := by
      obtain ⟨h, rfl⟩ | ⟨h, rfl⟩ := hform
      · exact ⟨_, exec_of_form h s, fun _ => getLsbD_clearBit _ b⟩
      · exact ⟨_, exec_of_form h s, fun _ => getLsbD_setBit _ b⟩
    obtain ⟨hchanged, hreg, hkeeps, hf⟩ := s.setReg_loads r w 2
    exact ⟨_, hexec, hchanged, hkeeps, hf, by rwa [hreg]⟩
  case atHL =>
    have hexec : exec i s = perform 4 (s.writeByte (s.pair .HL) w) := by
      obtain ⟨h, rfl⟩ | ⟨h, rfl⟩ := hform
      · obtain rfl : w = clearBit v b :=
          BitVec.eq_of_getLsbD_eq fun k hk => (hbits k hk).trans (getLsbD_clearBit v b hk).symm
        exact (exec_of_form h s).trans (perform_readByte_ok hv _)
      · obtain rfl : w = setBit v b :=
          BitVec.eq_of_getLsbD_eq fun k hk => (hbits k hk).trans (getLsbD_setBit v b hk).symm
        exact (exec_of_form h s).trans (perform_readByte_ok hv _)
    refine ⟨fun hacc => ?accepted, fun hacc => ?declined⟩
    case accepted =>
      obtain ⟨t, ht, hregs⟩ := State.writeByte_accepted hacc
      exact ⟨t, ht, hexec.trans (perform_ok ht), hregs⟩
    case declined =>
      obtain ⟨t, ht⟩ := State.writeByte_declined hacc
      exact ⟨t, ht, hexec.trans (perform_error ht)⟩
  case readDeclined =>
    obtain h | h | h := h <;> exact readDeclined_of_exec (exec_of_form h s)

end Sys2Proof.Machine
end

section
/-! SUPPORT. What a transfer that pushes PC ends in, and both outcomes of a conditional transfer; with them the obligations on
the jumps, the calls and the returns. -/

namespace Sys2Proof.Machine

/-! ## Transfers that are taken and those that are not (R101, R330) -/

/-- R332, R335: a jump that does not access memory completes whether it is taken or not. -/
theorem ite_finish (c : Prop) [Decidable c] (m n : Nat) (s t : State) :
    (if c then finish m s else finish n t) = .next (if c then { s with cost := m } else { t with cost := n }) :=
  (apply_ite Host.Outcome.next c _ _).symm

theorem callCond_taken {s : State} {cc : Cond} (hc : s.holds cc = true) (n16 : Word) :
    callCond cc n16 s = perform 6 (s.callTo n16) := if_pos hc

theorem callCond_untaken {s : State} {cc : Cond} (hc : s.holds cc = false) (n16 : Word) :
    callCond cc n16 s = finish 3 s := if_neg (Bool.eq_false_iff.mp hc)

theorem retCond_taken {s : State} {cc : Cond} (hc : s.holds cc = true) : retCond cc s = perform 5 s.returnFromCall :=
  if_pos hc

theorem retCond_untaken {s : State} {cc : Cond} (hc : s.holds cc = false) : retCond cc s = finish 2 s :=
  if_neg (Bool.eq_false_iff.mp hc)

/-- R341: the restart targets as numbers. -/
theorem restartTarget_eq (t : Fin 8) : restartTarget t = BitVec.ofNat 16 (8 * t.val) :=
  (BitVec.ofNat_mul 8 t.val).symm

/-- R336, R337, R341: an instruction that pushes PC and goes to a target writes the two bytes below the old SP before it
goes there; where a byte is declined it ends as the push does. -/
theorem callTo_of_exec {i : Instr} {s : State} {m : Nat} {a target : Word} (ha : a = s.regs.sp - 2)
    (h : exec i s = perform m (s.callTo target)) :
    ((s.setSp a).acceptsWord a s.regs.pc = true →
        ∃ u t, (s.setSp a).writeByte a (lowByte s.regs.pc) = .ok u ∧ u.writeByte (a + 1) (highByte s.regs.pc) = .ok t ∧
          exec i s = .next { t.setPc target with cost := m } ∧ t.regs = { s.regs with sp := a }) ∧
      ∀ t, (s.setSp a).writeWord a s.regs.pc = .error t → exec i s = .next t := by
  subst ha
  refine ⟨fun hacc => ?accepted, fun t ht => h.trans (perform_bind_error ht _)⟩
  case accepted =>
    obtain ⟨u, t, hu, ht, hpush, hregs⟩ := State.writeWord_accepted hacc
    exact ⟨u, t, hu, ht, h.trans (perform_ok (State.callTo_ok target hpush)), hregs⟩

/-! ## The obligations -/

/-- Settles O23: the unconditional forms set PC, and a conditional one completes on either side of its condition. -/
theorem jumpsGoToTheirTarget : Obligations.JumpsGoToTheirTarget := by
  refine fun i s cc n16 e8 => ⟨⟨rfl, rfl, rfl, rfl⟩, fun h => ⟨encode_of_form h, ?jp⟩, fun h => ⟨encode_of_form h, ?jpCond⟩,
    fun h => ⟨encode_of_form h, ?jpHL⟩, fun h => ⟨encode_of_form h, ?jr⟩, fun h => ⟨encode_of_form h, ?jrCond⟩⟩
  case jp => exact exec_of_form h s
  case jpCond => exact (exec_of_form h s).trans (ite_finish ..)
  case jpHL => exact exec_of_form h s
  case jr => exact exec_of_form h s
  case jrCond => exact (exec_of_form h s).trans (ite_finish ..)

/-- Settles O24: the three taken forms are one push of PC and then the target (`callTo_of_exec`); an untaken CALL cc has no
access. -/
theorem callsPushTheReturnAddress : Obligations.CallsPushTheReturnAddress := by
  refine ⟨?taken, fun i s cc target h =>
    ⟨encode_of_form h, fun hc => (exec_of_form h s).trans (callCond_untaken hc target)⟩⟩
  case taken =>
    intro i s a target m ha hform
    have hexec : exec i s = perform m (s.callTo target) := by
      obtain ⟨h, rfl⟩ | ⟨cc, h, hc, rfl⟩ | ⟨t, h, rfl, rfl⟩ := hform
      · exact exec_of_form h s
      · exact (exec_of_form h s).trans (callCond_taken hc target)
      · rw [← restartTarget_eq]
        exact exec_of_form h s
    exact ⟨encode_of_form, fun _ => encode_of_form, callTo_of_exec ha hexec⟩

/-- Settles O25: the taken forms pop PC (`State.pop16_ok`), and a declined byte ends them in the pop; an untaken RET cc has
no access. -/
theorem returnsPopTheReturnAddress : Obligations.ReturnsPopTheReturnAddress := by
  refine ⟨fun i s lo hi hlo hhi => ⟨fun h => ?ret, fun cc h hc => ?retCond, fun h => ?reti⟩,
    fun i s => ⟨fun h => ⟨encode_of_form h, popDeclined_of_exec (exec_of_form h s)⟩,
      fun h => ⟨encode_of_form h, popDeclined_of_exec (exec_of_form h s)⟩,
      fun cc h => ⟨encode_of_form h, fun hc => ?declined, fun hc => ?untaken⟩⟩⟩
  case ret => exact (exec_of_form h s).trans (ret_next hlo hhi)
  case retCond => exact (exec_of_form h s).trans (retCond_next hc hlo hhi)
  case reti => exact (exec_of_form h s).trans (reti_next hlo hhi)
  case declined => exact popDeclined_of_exec ((exec_of_form h s).trans (retCond_taken hc))
  case untaken => exact (exec_of_form h s).trans (retCond_untaken hc)

end Sys2Proof.Machine
end

section
/-! SUPPORT. The delay tick in closed form, and what one period does to the counter; with them the obligations on the delay
tick and the timer. -/

namespace Sys2Proof.Machine

/-! ## The delay tick (R384) -/

/-- R384: a delay counter after a tick: one less, and 0 stays 0. -/
def delayAfterTick (d : Fin 3) : Fin 3 := ⟨d.val - 1, by omega⟩

theorem Interrupts.tickDi_eq (c : Interrupts) :
    c.tickDi = { c with diDelay := delayAfterTick c.diDelay, ime := if c.diDelay = 1 then false else c.ime } := by
  obtain ⟨ie, iflag, ime, halted, ei, di⟩ := c
  match di with
  | 0 | 1 | 2 => rfl

theorem Interrupts.tickEi_eq (c : Interrupts) :
    c.tickEi = { c with eiDelay := delayAfterTick c.eiDelay, ime := if c.eiDelay = 1 then true else c.ime } := by
  obtain ⟨ie, iflag, ime, halted, ei, di⟩ := c
  match ei with
  | 0 | 1 | 2 => rfl

/-- R384: the whole tick. The enable comes second, so it decides IME where both counters run out. -/
theorem State.tickDelays_ints (s : State) :
    s.tickDelays.ints =
      { s.ints with
        diDelay := delayAfterTick s.ints.diDelay
        eiDelay := delayAfterTick s.ints.eiDelay
        ime := if s.ints.eiDelay = 1 then true else if s.ints.diDelay = 1 then false else s.ints.ime } := by
  rw [State.tickDelays, Interrupts.tickEi_eq, Interrupts.tickDi_eq]

/-- Settles O29: the tick in closed form; a counter armed to 2 is 1 after the first tick, so the second is the one that
changes IME. -/
theorem delayTickChangesTheMasterEnable : Obligations.DelayTickChangesTheMasterEnable := by
  intro s
  have hei : s.tickDelays.ints.eiDelay = delayAfterTick s.ints.eiDelay := by rw [s.tickDelays_ints]
  have hdi : s.tickDelays.ints.diDelay = delayAfterTick s.ints.diDelay := by rw [s.tickDelays_ints]
  have hime : s.tickDelays.ints.ime =
      if s.ints.eiDelay = 1 then true else if s.ints.diDelay = 1 then false else s.ints.ime := by rw [s.tickDelays_ints]
  refine ⟨rfl, ?closed, congrArg Fin.val hdi, congrArg Fin.val hei, fun he hd => ⟨?_, ?_⟩, fun hd he => ⟨?_, ?_⟩⟩
  case closed => rw [hei, hdi, s.tickDelays_ints]
  · rw [hime, he, hd]; rfl
  · rw [s.tickDelays.tickDelays_ints, hei, hdi, he, hd]; rfl
  · rw [hime, he, hd]; rfl
  · rw [s.tickDelays.tickDelays_ints, hei, hdi, he, hd]; rfl

/-! ## The timer (R400 to R402) -/

theorem Timer.period_pos (t : Timer) : 0 < t.period := by
  unfold Timer.period Config.timaPeriod
  split_ifs <;> decide

/-- R400, R401: the counter's advance leaves the divider alone. -/
theorem State.advanceCounter_divider (s : State) (t : Nat) :
    (s.advanceCounter t).timer.div = s.timer.div ∧ (s.advanceCounter t).timer.divAcc = s.timer.divAcc := by
  unfold State.advanceCounter
  split
  · refine turns_keeps (P := fun u => u.timer.div = s.timer.div ∧ u.timer.divAcc = s.timer.divAcc) (fun u hu => ?_) _ ⟨rfl, rfl⟩
    unfold State.timaTick
    split <;> exact hu
  · exact ⟨rfl, rfl⟩

/-- R400: the divider's law for the whole advance. -/
theorem State.timerStep_divider (s : State) (t : Nat) :
    (s.timerStep t).timer.div = s.timer.div + BitVec.ofNat 8 ((s.timer.divAcc + t) / 256) ∧
      (s.timerStep t).timer.divAcc = (s.timer.divAcc + t) % 256 := by
  obtain ⟨hdiv, hacc⟩ := (s.advanceDivider t).advanceCounter_divider t
  rw [State.timerStep, hdiv, hacc, s.advanceDivider_eq]
  exact ⟨rfl, rfl⟩

/-- R401: a disabled counter stands. -/
theorem State.timerStep_disabled {s : State} (h : s.timer.enabled = false) (t : Nat) : s.timerStep t = s.advanceDivider t := by
  have hd : (s.advanceDivider t).timer.enabled = false := by rw [s.advanceDivider_eq]; exact h
  exact if_neg (Bool.eq_false_iff.mp hd)

/-- R401: an enabled counter makes one turn for each whole period, from the TIMA, TMA and IF it had: the divider, which
runs first, changes none of them. -/
theorem State.timerStep_enabled {s : State} (h : s.timer.enabled = true) (t : Nat) :
    ∃ u : State, s.timerStep t = turns ((s.timer.timaAcc + t) / s.timer.period) State.timaTick u ∧
      u.timer.tima = s.timer.tima ∧ u.timer.tma = s.timer.tma ∧ u.ints = s.ints := by
  rw [State.timerStep, s.advanceDivider_eq]
  exact ⟨_, if_pos h, rfl, rfl, rfl⟩

/-- R402: past 0xFF the counter is loaded from TMA and the timer requests source 2. -/
theorem State.timaTick_overflow {s : State} (h : s.timer.tima = 0xFF) :
    s.timaTick = { s with timer := { s.timer with tima := s.timer.tma }
                          ints := { s.ints with iflag := s.ints.iflag ||| 0b00100 } } :=
  if_pos h

theorem State.timaTick_increment {s : State} (h : s.timer.tima ≠ 0xFF) :
    s.timaTick = { s with timer := { s.timer with tima := s.timer.tima + 1 } } :=
  if_neg h

/-- A byte below 0xFF does not wrap when it is incremented. -/
theorem toNat_byte_add_one {v : Byte} (h : v ≠ 0xFF) : (v + 1).toNat = v.toNat + 1 := by
  bv_omega

/-- Settles O49: the divider in closed form; from an empty accumulator the counter makes no turn below its period and one
turn at it. -/
theorem dividerAndCounter : Obligations.DividerAndCounter := by
  refine ⟨fun s t => ⟨?div, (s.timerStep_divider t).2, fun hoff => ?disabled⟩, fun s t hon hacc => ?counter⟩
  case div =>
    rw [(s.timerStep_divider t).1, BitVec.toNat_add, BitVec.toNat_ofNat, Nat.add_mod_mod]
  case disabled =>
    rw [State.timerStep_disabled hoff, s.advanceDivider_eq]
    exact ⟨rfl, rfl, rfl⟩
  case counter =>
    obtain ⟨u, hstep, htima, htma, hints⟩ := State.timerStep_enabled hon t
    rw [hacc, Nat.zero_add] at hstep
    rw [hstep, ← htima, ← htma, ← hints]
    have oneTurn (h : t = s.timer.period) : t / s.timer.period = 1 := by rw [h, Nat.div_self s.timer.period_pos]
    refine ⟨fun hlt => ?below, fun heq hff => ?overflow, fun heq hne => ?increment⟩
    case below =>
      rw [Nat.div_eq_of_lt hlt]
      exact ⟨rfl, rfl⟩
    case overflow =>
      rw [oneTurn heq, turns, turns, State.timaTick_overflow hff]
      exact ⟨rfl, rfl⟩
    case increment =>
      rw [oneTurn heq, turns, turns, State.timaTick_increment hne]
      exact ⟨toNat_byte_add_one hne, rfl⟩

end Sys2Proof.Machine
end

section
/-! SUPPORT. Selection from the sprite table; with it the obligation on the sprites of a line. -/

namespace Sys2Proof.Machine

/-! ## The sprites of a line (R423) -/

/-- A member of an ordered list that is not among its first n stands behind n members, all of them smaller. -/
theorem take_full_of_not_mem {l : List Nat} (hl : l.Pairwise (· < ·)) {n k : Nat} (hk : k ∈ l) (hnot : k ∉ l.take n) :
    (l.take n).length = n ∧ ∀ j ∈ l.take n, j < k := by
  rw [← l.take_append_drop n] at hk hl
  have hdrop : k ∈ l.drop n := (List.mem_append.mp hk).resolve_left hnot
  have hlen : n < l.length := Nat.lt_of_sub_pos (List.length_drop ▸ List.length_pos_of_mem hdrop)
  exact ⟨List.length_take_of_le hlen.le, fun j hj => (List.pairwise_append.mp hl).2.2 j hj k hdrop⟩

theorem State.selectSprites_on {s : State} (h : s.lcd.lcdc.getLsbD 1 = true) (ly : Nat) :
    s.selectSprites ly = ((List.range 40).filter (s.spriteCovers ly)).take 10 := if_pos h

theorem State.selectSprites_off {s : State} (h : s.lcd.lcdc.getLsbD 1 = false) (ly : Nat) : s.selectSprites ly = [] :=
  if_neg (Bool.eq_false_iff.mp h)

/-- R423: an entry of the table covers a line by its Y alone. -/
theorem State.spriteCovers_iff (s : State) (ly k : Nat) : s.spriteCovers ly k = true ↔
    (s.mem.read (0xFE00 + 4 * k)).toNat ≤ ly + 16 ∧
      ly + 16 < (s.mem.read (0xFE00 + 4 * k)).toNat + if s.lcd.lcdc.getLsbD 2 then 16 else 8 := by
  rw [State.spriteCovers, Bool.and_eq_true, decide_eq_true_iff, decide_eq_true_iff]
  rfl

/-- Settles O57: the selection is the first ten of the covering entries in table order. -/
theorem atMostTenSpritesPerLine : Obligations.AtMostTenSpritesPerLine := by
  refine fun s ly => ⟨fun hoff => State.selectSprites_off hoff ly, fun hon => ?_⟩
  intro h covers
  have ordered := (List.pairwise_lt_range (n := 40)).filter (s.spriteCovers ly)
  have mem_covering (k : Nat) : k ∈ (List.range 40).filter (s.spriteCovers ly) ↔ k < 40 ∧ covers k := by
    rw [List.mem_filter, List.mem_range, s.spriteCovers_iff]
  rw [State.selectSprites_on hon]
  exact ⟨List.length_take_le .., ordered.take, fun k hk => (mem_covering k).mp (List.mem_of_mem_take hk),
    fun k hk hcovers => take_full_of_not_mem ordered ((mem_covering k).mpr ⟨hk, hcovers⟩)⟩

end Sys2Proof.Machine
end

section
/-! SUPPORT. The display's loop as the ends of its modes, the sum law of its advances, and what one mode's end leaves; with
them the obligations on power-off, the mode ends and the line. -/

namespace Sys2Proof.Machine

/-! ## The end of a mode (R412)

No mode's end looks at the clock or changes it, so an advance in between may be made before or after it. -/

/-- `mode_clock <- n`. -/
def State.setModeClock (s : State) (n : Nat) : State := { s with lcd := { s.lcd with modeClock := n } }

/-- R412: what the end of the current mode does, its duration already taken off the clock. -/
def State.endMode (s : State) : State :=
  match s.lcd.mode with
  | .spriteScan => s.endSpriteScan
  | .pixelTransfer => s.endPixelTransfer
  | .hblank => s.endHblank
  | .vblank => s.endVblankLine

@[simp] theorem State.setModeClock_ly (s : State) (n : Nat) : (s.setModeClock n).lcd.ly = s.lcd.ly := rfl

@[simp] theorem State.setModeClock_statEn (s : State) (n : Nat) : (s.setModeClock n).lcd.statEn = s.lcd.statEn := rfl

@[simp] theorem State.setMode_setModeClock (s : State) (m : Mode) (n : Nat) :
    (s.setModeClock n).setMode m = (s.setMode m).setModeClock n := rfl

@[simp] theorem State.setLy_setModeClock (s : State) (v : Byte) (n : Nat) :
    (s.setModeClock n).setLy v = (s.setLy v).setModeClock n := rfl

@[simp] theorem State.request_setModeClock (s : State) (i : Fin 5) (n : Nat) :
    (s.setModeClock n).request i = (s.request i).setModeClock n := rfl

@[simp] theorem State.render_setModeClock (s : State) (ly n : Nat) :
    (s.setModeClock n).render ly = (s.render ly).setModeClock n := rfl

@[simp] theorem State.requestStatus_setModeClock (s : State) (b : Bool) (n : Nat) :
    (s.setModeClock n).requestStatus b = (s.requestStatus b).setModeClock n := by
  cases b <;> rfl

@[simp] theorem State.compareLine_setModeClock (s : State) (n : Nat) :
    (s.setModeClock n).compareLine = s.compareLine.setModeClock n := s.requestStatus_setModeClock _ n

theorem State.endPixelTransfer_setModeClock (s : State) (n : Nat) :
    (s.setModeClock n).endPixelTransfer = s.endPixelTransfer.setModeClock n := by
  simp [State.endPixelTransfer]

theorem State.endHblank_setModeClock (s : State) (n : Nat) :
    (s.setModeClock n).endHblank = s.endHblank.setModeClock n := by
  simp only [State.endHblank, State.setModeClock_ly, State.setLy_setModeClock, State.compareLine_setModeClock]
  split <;> simp

theorem State.endVblankLine_setModeClock (s : State) (n : Nat) :
    (s.setModeClock n).endVblankLine = s.endVblankLine.setModeClock n := by
  simp only [State.endVblankLine, State.setModeClock_ly, State.setLy_setModeClock, State.compareLine_setModeClock]
  split <;> simp

theorem State.endMode_setModeClock (s : State) (n : Nat) : (s.setModeClock n).endMode = s.endMode.setModeClock n := by
  unfold State.endMode
  rw [show (s.setModeClock n).lcd.mode = s.lcd.mode from rfl]
  cases s.lcd.mode with
  | spriteScan => rfl
  | pixelTransfer => exact s.endPixelTransfer_setModeClock n
  | hblank => exact s.endHblank_setModeClock n
  | vblank => exact s.endVblankLine_setModeClock n

/-- R412: no mode's end writes LCDC, so the display stays on. -/
theorem State.endMode_lcdc (s : State) : s.endMode.lcd.lcdc = s.lcd.lcdc := by
  unfold State.endMode
  cases s.lcd.mode with
  | spriteScan => rfl
  | pixelTransfer => simp [State.endPixelTransfer, State.render]
  | hblank =>
    simp only [State.endHblank]
    split <;> simp
  | vblank =>
    simp only [State.endVblankLine]
    split <;> simp

/-! ## The loop (R412) -/

/-- R412: a turn takes the mode's duration off the clock and ends the mode. -/
theorem State.displayTurn_eq (s : State) :
    s.displayTurn =
      if s.lcd.mode.duration ≤ s.lcd.modeClock then
        some (s.endMode.setModeClock (s.lcd.modeClock - s.lcd.mode.duration))
      else none := by
  rw [← s.endMode_setModeClock]
  unfold State.displayTurn State.endMode State.setModeClock
  dsimp only
  cases s.lcd.mode <;> rfl

/-- R412: the loop run to its exit. -/
def State.displayRun (s : State) : State := displayLoop (displayTurns s.lcd.modeClock) s

theorem displayLoop_eq_displayRun {n : Nat} {s : State} (hn : s.lcd.modeClock < 80 * n) : displayLoop n s = s.displayRun :=
  calc displayLoop n s
    _ = displayLoop (n + displayTurns s.lcd.modeClock) s := (displayLoop_more n _ s hn).symm
    _ = displayLoop (displayTurns s.lcd.modeClock + n) s := by rw [Nat.add_comm]
    _ = s.displayRun := displayLoop_more _ n s (displayTurns_enough _)

theorem State.displayRun_of_lt {s : State} (h : s.lcd.modeClock < s.lcd.mode.duration) : s.displayRun = s := by
  rw [State.displayRun, displayTurns, displayLoop, s.displayTurn_eq, if_neg (Nat.not_le.mpr h)]

theorem State.displayRun_of_le {s : State} (h : s.lcd.mode.duration ≤ s.lcd.modeClock) :
    s.displayRun = (s.endMode.setModeClock (s.lcd.modeClock - s.lcd.mode.duration)).displayRun := by
  rw [State.displayRun, displayTurns, displayLoop, s.displayTurn_eq, if_pos h]
  have hpos := s.lcd.mode.duration_pos
  exact displayLoop_eq_displayRun (show s.lcd.modeClock - s.lcd.mode.duration < 80 * (s.lcd.modeClock / 80) by omega)

theorem State.displayRun_lcdc (s : State) : s.displayRun.lcd.lcdc = s.lcd.lcdc := by
  refine displayLoop_keeps (P := fun u => u.lcd.lcdc = s.lcd.lcdc) (fun u v hu hv => ?_) _ rfl
  rw [u.displayTurn_eq, Option.ite_none_right_eq_some, Option.some_inj] at hv
  rw [← hu, ← u.endMode_lcdc, ← hv.2]
  rfl

/-- R412: T-cycles that come after the loop's exit might as well have been on the clock before it. -/
theorem State.displayRun_add (s : State) (u : Nat) :
    (s.displayRun.setModeClock (s.displayRun.lcd.modeClock + u)).displayRun =
      (s.setModeClock (s.lcd.modeClock + u)).displayRun := by
  induction hclock : s.lcd.modeClock using Nat.strong_induction_on generalizing s with
  | _ clock ih =>
    subst hclock
    by_cases h : s.lcd.modeClock < s.lcd.mode.duration
    · rw [State.displayRun_of_lt h]
    · have hle : s.lcd.mode.duration ≤ s.lcd.modeClock := Nat.not_lt.mp h
      have hpos := s.lcd.mode.duration_pos
      let t := s.endMode.setModeClock (s.lcd.modeClock - s.lcd.mode.duration)
      calc (s.displayRun.setModeClock (s.displayRun.lcd.modeClock + u)).displayRun
        _ = (t.displayRun.setModeClock (t.displayRun.lcd.modeClock + u)).displayRun := by rw [State.displayRun_of_le hle]
        _ = (s.endMode.setModeClock (s.lcd.modeClock - s.lcd.mode.duration + u)).displayRun :=
          ih t.lcd.modeClock (Nat.sub_lt_self (by omega) hle) t rfl
        _ = (s.endMode.setModeClock (s.lcd.modeClock + u - s.lcd.mode.duration)).displayRun := by
          rw [Nat.sub_add_comm hle]
        _ = (s.setModeClock (s.lcd.modeClock + u)).displayRun := by
          rw [State.displayRun_of_le (s := s.setModeClock (s.lcd.modeClock + u)) (Nat.le_add_right_of_le hle),
            s.endMode_setModeClock]
          rfl

/-! ## The advance (R410, R412) -/

theorem State.displayStep_on {s : State} (h : s.lcd.powered = true) (t : Nat) :
    s.displayStep t = (s.setModeClock (s.lcd.modeClock + t)).displayRun := if_pos h

theorem State.displayStep_off {s : State} (h : s.lcd.powered = false) (t : Nat) : s.displayStep t = s :=
  if_neg (Bool.eq_false_iff.mp h)

theorem State.displayStep_powered (s : State) (t : Nat) : (s.displayStep t).lcd.powered = s.lcd.powered := by
  cases h : s.lcd.powered with
  | false => rw [State.displayStep_off h, h]
  | true =>
    rw [State.displayStep_on h, ← h]
    exact congrArg (BitVec.getLsbD · 7) (State.displayRun_lcdc _)

/-- R412: only the sum of the T-cycles matters to the display. -/
theorem State.displayStep_add (s : State) (t u : Nat) : (s.displayStep t).displayStep u = s.displayStep (t + u) := by
  cases h : s.lcd.powered with
  | false => rw [State.displayStep_off h, State.displayStep_off h, State.displayStep_off h]
  | true =>
    rw [State.displayStep_on ((s.displayStep_powered t).trans h), State.displayStep_on h, State.displayStep_on h,
      State.displayRun_add, ← Nat.add_assoc]
    rfl

/-- R412: T-cycles fed in a split are those of their sum. -/
theorem State.foldl_displayStep (ts : List Nat) (s : State) (t : Nat) :
    ts.foldl State.displayStep (s.displayStep t) = s.displayStep (t + ts.sum) := by
  induction ts generalizing t with
  | nil => rfl
  | cons u us ih => rw [List.foldl_cons, s.displayStep_add, ih, List.sum_cons, Nat.add_assoc]

/-- R412: below its mode's duration the display only counts. -/
theorem State.displayStep_of_lt {s : State} {t : Nat} (hon : s.lcd.powered = true)
    (h : s.lcd.modeClock + t < s.lcd.mode.duration) : s.displayStep t = s.setModeClock (s.lcd.modeClock + t) := by
  rw [State.displayStep_on hon]
  exact State.displayRun_of_lt h

/-- R412: an advance past the end of the mode, but not past the end of any next one, ends one mode. -/
theorem State.displayStep_of_oneEnd {s : State} {t : Nat} (hon : s.lcd.powered = true)
    (hle : s.lcd.mode.duration ≤ s.lcd.modeClock + t) (hlt : s.lcd.modeClock + t < s.lcd.mode.duration + 80) :
    s.displayStep t = s.endMode.setModeClock (s.lcd.modeClock + t - s.lcd.mode.duration) := by
  rw [State.displayStep_on hon, State.displayRun_of_le (s := s.setModeClock (s.lcd.modeClock + t)) hle,
    s.endMode_setModeClock]
  exact State.displayRun_of_lt (Nat.lt_of_lt_of_le (Nat.sub_lt_left_of_lt_add hle hlt) (Mode.duration_pos _))

/-! ## What one mode's end leaves (R412 to R415) -/

@[simp] theorem State.requestStatus_iflag (s : State) (b : Bool) :
    (s.requestStatus b).ints.iflag = s.ints.iflag ||| if b then 0b00010 else 0 := by
  cases b with
  | false => exact BitVec.or_zero.symm
  | true => rfl

@[simp] theorem State.compareLine_iflag (s : State) :
    s.compareLine.ints.iflag =
      s.ints.iflag ||| if s.lcd.ly = s.lcd.lyc ∧ s.lcd.statEn.getLsbD 3 = true then 0b00010 else 0 := by
  simp [State.compareLine]

theorem State.requestVblank_iflag (s : State) : (s.request 0).ints.iflag = s.ints.iflag ||| 0b00001 := rfl

/-- R413: two requests of one source are one request, made where either is. -/
theorem request_or_request (v : BitVec 5) (p q : Prop) [Decidable p] [Decidable q] :
    (if p then v else 0) ||| (if q then v else 0) = if p ∨ q then v else 0 := by
  by_cases hp : p <;> by_cases hq : q <;> simp [hp, hq]

/-- R412, R413: mode 3 over. -/
theorem State.endPixelTransfer_leaves (s : State) :
    s.endPixelTransfer.lcd.mode = .hblank ∧ s.endPixelTransfer.lcd.ly = s.lcd.ly ∧
      s.endPixelTransfer.ints.iflag = s.ints.iflag ||| (if s.lcd.statEn.getLsbD 0 then 0b00010 else 0) := by
  simp [State.endPixelTransfer, State.render]

/-- R412 to R414: mode 0 over, before line 144. -/
theorem State.endHblank_leaves {s : State} (h : s.lcd.ly + 1 ≠ 144) :
    s.endHblank.lcd.mode = .spriteScan ∧ s.endHblank.lcd.ly = s.lcd.ly + 1 ∧
      s.endHblank.ints.iflag = s.ints.iflag |||
        (if s.lcd.statEn.getLsbD 2 ∨ (s.lcd.ly + 1 = s.lcd.lyc ∧ s.lcd.statEn.getLsbD 3) then 0b00010 else 0) := by
  have hend : s.endHblank =
      ((s.setLy (s.lcd.ly + 1)).compareLine.setMode .spriteScan).requestStatus (s.lcd.statEn.getLsbD 2) := by
    simp only [State.endHblank, State.compareLine_lcd, State.setLy_lcd, State.setMode_lcd, if_neg h]
  rw [hend, ← request_or_request]
  refine ⟨by simp, by simp, ?_⟩
  simp only [State.requestStatus_iflag, State.setMode_ints, State.compareLine_iflag, State.setLy_ints, State.setLy_lcd]
  ac_rfl

/-- R412 to R415: mode 0 over, entering line 144. -/
theorem State.endHblank_leaves_144 {s : State} (h : s.lcd.ly + 1 = 144) :
    s.endHblank.lcd.mode = .vblank ∧ s.endHblank.lcd.ly = 144 ∧
      s.endHblank.ints.iflag = s.ints.iflag ||| 0b00001 |||
        (if s.lcd.statEn.getLsbD 1 ∨ (s.lcd.ly + 1 = s.lcd.lyc ∧ s.lcd.statEn.getLsbD 3) then 0b00010 else 0) := by
  have hend : s.endHblank =
      (((s.setLy (s.lcd.ly + 1)).compareLine.setMode .vblank).request 0).requestStatus (s.lcd.statEn.getLsbD 1) := by
    simp only [State.endHblank, State.compareLine_lcd, State.setLy_lcd, State.setMode_lcd, State.request_lcd, if_pos h]
  rw [hend, ← request_or_request]
  refine ⟨by simp, by simpa using h, ?_⟩
  simp only [State.requestStatus_iflag, State.requestVblank_iflag, State.setMode_ints,
    State.compareLine_iflag, State.setLy_ints, State.setLy_lcd]
  ac_rfl

/-- R412, R414: a line of mode 1 over, before the last. -/
theorem State.endVblankLine_leaves {s : State} (h : s.lcd.ly + 1 ≠ 154) :
    s.endVblankLine.lcd.mode = s.lcd.mode ∧ s.endVblankLine.lcd.ly = s.lcd.ly + 1 ∧
      s.endVblankLine.ints.iflag = s.ints.iflag |||
        (if s.lcd.ly + 1 = s.lcd.lyc ∧ s.lcd.statEn.getLsbD 3 then 0b00010 else 0) := by
  have hend : s.endVblankLine = (s.setLy (s.lcd.ly + 1)).compareLine := if_neg h
  rw [hend]
  exact ⟨by simp, by simp, State.compareLine_iflag _⟩

/-- R412 to R414: the last line of mode 1 over. -/
theorem State.endVblankLine_leaves_154 {s : State} (h : s.lcd.ly + 1 = 154) :
    s.endVblankLine.lcd.mode = .spriteScan ∧ s.endVblankLine.lcd.ly = 0 ∧
      s.endVblankLine.ints.iflag = s.ints.iflag |||
        (if s.lcd.statEn.getLsbD 2 ∨ (0 = s.lcd.lyc ∧ s.lcd.statEn.getLsbD 3) then 0b00010 else 0) := by
  have hend : s.endVblankLine =
      (((s.setLy 0).setMode .spriteScan).requestStatus (s.lcd.statEn.getLsbD 2)).compareLine := if_pos h
  rw [hend, ← request_or_request]
  refine ⟨by simp, by simp, ?_⟩
  simp only [State.compareLine_iflag, State.requestStatus_lcd, State.requestStatus_iflag, State.setMode_lcd,
    State.setMode_ints, State.setLy_lcd, State.setLy_ints]
  ac_rfl

/-! ## The starts of the modes of a line (R411, R427) -/

/-- The display is on and at the first T-cycle of a mode of line ly. -/
structure State.AtModeStart (s : State) (m : Mode) (ly : Byte) : Prop where
  on : s.lcd.powered = true
  mode : s.lcd.mode = m
  line : s.lcd.ly = ly
  clock : s.lcd.modeClock = 0

/-- R412: a mode's whole duration from its start reaches the start of the mode that its end enters. -/
theorem State.AtModeStart.displayStep_duration {s : State} {m m' : Mode} {ly ly' : Byte} (h : s.AtModeStart m ly)
    (hmode : s.endMode.lcd.mode = m') (hly : s.endMode.lcd.ly = ly') :
    (s.displayStep m.duration).AtModeStart m' ly' := by
  obtain ⟨on, rfl, -, clock⟩ := h
  have hend : s.displayStep s.lcd.mode.duration = s.endMode.setModeClock 0 := by
    rw [State.displayStep_of_oneEnd on (by omega) (by omega), clock, Nat.zero_add, Nat.sub_self]
  refine ⟨(s.displayStep_powered _).trans on, ?_, ?_, ?_⟩ <;> rw [hend]
  exacts [hmode, hly, rfl]

theorem State.endMode_of_spriteScan {s : State} (h : s.lcd.mode = .spriteScan) : s.endMode = s.endSpriteScan := by
  rw [State.endMode, h]

theorem State.endMode_of_pixelTransfer {s : State} (h : s.lcd.mode = .pixelTransfer) : s.endMode = s.endPixelTransfer := by
  rw [State.endMode, h]

theorem State.endMode_of_hblank {s : State} (h : s.lcd.mode = .hblank) : s.endMode = s.endHblank := by
  rw [State.endMode, h]

theorem State.endMode_of_vblank {s : State} (h : s.lcd.mode = .vblank) : s.endMode = s.endVblankLine := by
  rw [State.endMode, h]

theorem State.AtModeStart.spriteScan_ends {s : State} {ly : Byte} (h : s.AtModeStart .spriteScan ly) :
    (s.displayStep 80).AtModeStart .pixelTransfer ly :=
  have hend := State.endMode_of_spriteScan h.mode
  h.displayStep_duration (congrArg (·.lcd.mode) hend) ((congrArg (·.lcd.ly) hend).trans h.line)

theorem State.AtModeStart.pixelTransfer_ends {s : State} {ly : Byte} (h : s.AtModeStart .pixelTransfer ly) :
    (s.displayStep 172).AtModeStart .hblank ly := by
  obtain ⟨hmode, hly, -⟩ := s.endPixelTransfer_leaves
  rw [← State.endMode_of_pixelTransfer h.mode] at hmode hly
  exact h.displayStep_duration hmode (hly.trans h.line)

theorem State.AtModeStart.hblank_ends {s : State} {ly : Byte} (h : s.AtModeStart .hblank ly) (hne : ly + 1 ≠ 144) :
    (s.displayStep 204).AtModeStart .spriteScan (ly + 1) := by
  obtain rfl := h.line
  obtain ⟨hmode, hly, -⟩ := State.endHblank_leaves hne
  rw [← State.endMode_of_hblank h.mode] at hmode hly
  exact h.displayStep_duration hmode hly

/-- R427: a line before the last drawn one takes 456 T-cycles. -/
theorem State.AtModeStart.line_ends {s : State} {ly : Byte} (h : s.AtModeStart .spriteScan ly) (hne : ly + 1 ≠ 144) :
    (s.displayStep 456).AtModeStart .spriteScan (ly + 1) := by
  have hsum : s.displayStep 456 = ((s.displayStep 80).displayStep 172).displayStep 204 := by
    rw [State.displayStep_add, State.displayStep_add]
  rw [hsum]
  exact h.spriteScan_ends.pixelTransfer_ends.hblank_ends hne

/-! ## The obligations -/

/-- Settles O54: the write to LCDC is `writeLcdc` on either side of bit 7, and the advance looks at that bit first. -/
theorem powerOffResetsTheDisplay : Obligations.PowerOffResetsTheDisplay := by
  intro s v
  obtain ⟨read, write⟩ := s.access_io (a := 0xFF40) v .lcdc rfl
  refine ⟨read, fun hoff => ?off, fun hon => ?on, State.displayStep_off⟩
  case off =>
    rw [write, State.ioWrite, Display.writeLcdc, hoff]
    rfl
  case on =>
    rw [write, State.ioWrite, Display.writeLcdc, hon]
    rfl

/-- Settles O55: one mode ends and the clock stops below the next mode's duration, so the state is what that end leaves. -/
theorem statusRequestsOfModeEnds : Obligations.StatusRequestsOfModeEnds := by
  intro s t hon _ hle hlt d next
  have hd : d = s.endMode.setModeClock (s.lcd.modeClock + t - s.lcd.mode.duration) :=
    State.displayStep_of_oneEnd hon hle hlt
  refine ⟨fun hmode => ?spriteScan, fun hmode => ?pixelTransfer, fun hmode hne => ?hblank, fun hmode h144 => ?enterVblank,
    fun hmode hne => ?vblank, fun hmode h154 => ?leaveVblank⟩ <;> rw [hd]
  case spriteScan =>
    rw [State.endMode_of_spriteScan hmode]
    exact ⟨rfl, rfl⟩
  case pixelTransfer =>
    rw [State.endMode_of_pixelTransfer hmode]
    obtain ⟨mode, -, iflag⟩ := s.endPixelTransfer_leaves
    exact ⟨mode, iflag⟩
  case hblank =>
    rw [State.endMode_of_hblank hmode]
    exact State.endHblank_leaves hne
  case enterVblank =>
    rw [State.endMode_of_hblank hmode]
    exact State.endHblank_leaves_144 h144
  case vblank =>
    rw [State.endMode_of_vblank hmode]
    obtain ⟨mode, ly, iflag⟩ := State.endVblankLine_leaves hne
    exact ⟨mode.trans hmode, ly, iflag⟩
  case leaveVblank =>
    rw [State.endMode_of_vblank hmode]
    exact State.endVblankLine_leaves_154 h154

/-- Settles O52: a split adds up (`foldl_displayStep`), and the three modes of the line end one after another. -/
theorem lineTakes456Cycles : Obligations.LineTakes456Cycles := by
  refine fun s hon hly hclock => ⟨fun hmode ts hsum => ?split, fun hmode => ⟨?before, ?after⟩⟩
  case split =>
    have hfold : ts.foldl State.displayStep s = s.displayStep 456 := by
      cases ts with
      | nil => cases hsum
      | cons t ts => rw [List.foldl_cons, s.foldl_displayStep ts t, ← List.sum_cons, hsum]
    rw [hfold]
    obtain ⟨-, mode, line, clock⟩ := State.AtModeStart.line_ends ⟨hon, hmode, hly, hclock⟩ (by decide)
    exact ⟨line, mode, clock⟩
  case before =>
    rw [State.displayStep_of_lt hon (by rw [hclock, hmode]; decide)]
    exact hly
  case after =>
    exact (State.AtModeStart.hblank_ends ⟨hon, hmode, hly, hclock⟩ (by decide)).line

end Sys2Proof.Machine
end

section
/-! SUPPORT. The round trips over the whole opcode map, from the rows' lemmas and from the three lengths of an instruction;
with them the obligations on encoding and decoding. -/

namespace Sys2Proof.Laws.RoundTrip

/-- R130 to R142: the round trip of every row, in the order of `Instr`. -/
theorem roundTrip : ∀ i, Statement i :=
  @Instr.rec Statement ld_BC_n16 ld_B_n8 ld_atN16_SP ld_C_n8 stop ld_DE_n16 ld_D_n8 jr_e8 ld_E_n8 jr_NZ_e8 ld_HL_n16
    ld_H_n8 jr_Z_e8 ld_L_n8 jr_NC_e8 ld_SP_n16 ld_atHL_n8 jr_C_e8 ld_A_n8 jp_NZ_n16 jp_n16 call_NZ_n16 add_A_n8
    jp_Z_n16 prefixCb call_Z_n16 call_n16 adc_A_n8 jp_NC_n16 call_NC_n16 sub_n8 jp_C_n16 call_C_n16 sbc_A_n8
    ldh_atN8_A and_n8 add_SP_e8 ld_atN16_A xor_n8 ldh_A_atN8 or_n8 ld_HL_SPplusE8 ld_A_atN16 cp_n8 nop ld_atBC_A
    inc_BC inc_B dec_B rlca add_HL_BC ld_A_atBC dec_BC inc_C dec_C rrca ld_atDE_A inc_DE inc_D dec_D rla add_HL_DE
    ld_A_atDE dec_DE inc_E dec_E rra ld_atHLinc_A inc_HL inc_H dec_H daa add_HL_HL ld_A_atHLinc dec_HL inc_L dec_L cpl
    ld_atHLdec_A inc_SP inc_atHL dec_atHL scf add_HL_SP ld_A_atHLdec dec_SP inc_A dec_A ccf ld_B_B ld_B_C ld_B_D
    ld_B_E ld_B_H ld_B_L ld_B_atHL ld_B_A ld_C_B ld_C_C ld_C_D ld_C_E ld_C_H ld_C_L ld_C_atHL ld_C_A ld_D_B ld_D_C
    ld_D_D ld_D_E ld_D_H ld_D_L ld_D_atHL ld_D_A ld_E_B ld_E_C ld_E_D ld_E_E ld_E_H ld_E_L ld_E_atHL ld_E_A ld_H_B
    ld_H_C ld_H_D ld_H_E ld_H_H ld_H_L ld_H_atHL ld_H_A ld_L_B ld_L_C ld_L_D ld_L_E ld_L_H ld_L_L ld_L_atHL ld_L_A
    ld_atHL_B ld_atHL_C ld_atHL_D ld_atHL_E ld_atHL_H ld_atHL_L halt ld_atHL_A ld_A_B ld_A_C ld_A_D ld_A_E ld_A_H
    ld_A_L ld_A_atHL ld_A_A add_A_B add_A_C add_A_D add_A_E add_A_H add_A_L add_A_atHL add_A_A adc_A_B adc_A_C adc_A_D
    adc_A_E adc_A_H adc_A_L adc_A_atHL adc_A_A sub_B sub_C sub_D sub_E sub_H sub_L sub_atHL sub_A sbc_A_B sbc_A_C
    sbc_A_D sbc_A_E sbc_A_H sbc_A_L sbc_A_atHL sbc_A_A and_B and_C and_D and_E and_H and_L and_atHL and_A xor_B xor_C
    xor_D xor_E xor_H xor_L xor_atHL xor_A or_B or_C or_D or_E or_H or_L or_atHL or_A cp_B cp_C cp_D cp_E cp_H cp_L
    cp_atHL cp_A ret_NZ pop_BC push_BC rst_00 ret_Z ret rst_08 ret_NC pop_DE illegal_D3 push_DE rst_10 ret_C reti
    illegal_DB illegal_DD rst_18 pop_HL ld_atC_A illegal_E3 illegal_E4 push_HL rst_20 jp_HL illegal_EB illegal_EC
    illegal_ED rst_28 pop_AF ld_A_atC di illegal_F4 push_AF rst_30 ld_SP_HL ei illegal_FC illegal_FD rst_38 rlc_B
    rlc_C rlc_D rlc_E rlc_H rlc_L rlc_atHL rlc_A rrc_B rrc_C rrc_D rrc_E rrc_H rrc_L rrc_atHL rrc_A rl_B rl_C rl_D
    rl_E rl_H rl_L rl_atHL rl_A rr_B rr_C rr_D rr_E rr_H rr_L rr_atHL rr_A sla_B sla_C sla_D sla_E sla_H sla_L
    sla_atHL sla_A sra_B sra_C sra_D sra_E sra_H sra_L sra_atHL sra_A swap_B swap_C swap_D swap_E swap_H swap_L
    swap_atHL swap_A srl_B srl_C srl_D srl_E srl_H srl_L srl_atHL srl_A bit_0_B bit_0_C bit_0_D bit_0_E bit_0_H
    bit_0_L bit_0_atHL bit_0_A bit_1_B bit_1_C bit_1_D bit_1_E bit_1_H bit_1_L bit_1_atHL bit_1_A bit_2_B bit_2_C
    bit_2_D bit_2_E bit_2_H bit_2_L bit_2_atHL bit_2_A bit_3_B bit_3_C bit_3_D bit_3_E bit_3_H bit_3_L bit_3_atHL
    bit_3_A bit_4_B bit_4_C bit_4_D bit_4_E bit_4_H bit_4_L bit_4_atHL bit_4_A bit_5_B bit_5_C bit_5_D bit_5_E bit_5_H
    bit_5_L bit_5_atHL bit_5_A bit_6_B bit_6_C bit_6_D bit_6_E bit_6_H bit_6_L bit_6_atHL bit_6_A bit_7_B bit_7_C
    bit_7_D bit_7_E bit_7_H bit_7_L bit_7_atHL bit_7_A res_0_B res_0_C res_0_D res_0_E res_0_H res_0_L res_0_atHL
    res_0_A res_1_B res_1_C res_1_D res_1_E res_1_H res_1_L res_1_atHL res_1_A res_2_B res_2_C res_2_D res_2_E res_2_H
    res_2_L res_2_atHL res_2_A res_3_B res_3_C res_3_D res_3_E res_3_H res_3_L res_3_atHL res_3_A res_4_B res_4_C
    res_4_D res_4_E res_4_H res_4_L res_4_atHL res_4_A res_5_B res_5_C res_5_D res_5_E res_5_H res_5_L res_5_atHL
    res_5_A res_6_B res_6_C res_6_D res_6_E res_6_H res_6_L res_6_atHL res_6_A res_7_B res_7_C res_7_D res_7_E res_7_H
    res_7_L res_7_atHL res_7_A set_0_B set_0_C set_0_D set_0_E set_0_H set_0_L set_0_atHL set_0_A set_1_B set_1_C
    set_1_D set_1_E set_1_H set_1_L set_1_atHL set_1_A set_2_B set_2_C set_2_D set_2_E set_2_H set_2_L set_2_atHL
    set_2_A set_3_B set_3_C set_3_D set_3_E set_3_H set_3_L set_3_atHL set_3_A set_4_B set_4_C set_4_D set_4_E set_4_H
    set_4_L set_4_atHL set_4_A set_5_B set_5_C set_5_D set_5_E set_5_H set_5_L set_5_atHL set_5_A set_6_B set_6_C
    set_6_D set_6_E set_6_H set_6_L set_6_atHL set_6_A set_7_B set_7_C set_7_D set_7_E set_7_H set_7_L set_7_atHL
    set_7_A

end Sys2Proof.Laws.RoundTrip

namespace Sys2Proof.Machine

/-! ## Encoding what was decoded (R130, R145, R148) -/

/-- An instruction is in its canonical spelling and has these bytes. -/
structure EncodesTo (i : Instr) (bytes : List Byte) : Prop where
  wellFormed : i.WellFormed = true
  bytes : encode i = bytes

theorem decodeBytes_one_encodesTo :
    ∀ op, op ∉ threeByteOpcodes → op ∉ twoByteOpcodes → EncodesTo (decodeBytes op 0 0) [op] := by
  have checked : ∀ op, op ∉ threeByteOpcodes → op ∉ twoByteOpcodes →
      (decodeBytes op 0 0).WellFormed = true ∧ encode (decodeBytes op 0 0) = [op] := by decide +kernel
  exact fun op h3 h2 => ⟨(checked op h3 h2).1, (checked op h3 h2).2⟩

/-- R142, R144: every second byte of the prefix selects an instruction. -/
theorem decodeCb_encodesTo : ∀ op2, EncodesTo (decodeCb op2) [0xCB, op2] := by
  have checked : ∀ op2, (decodeCb op2).WellFormed = true ∧ encode (decodeCb op2) = [0xCB, op2] := by decide +kernel
  exact fun op2 => ⟨(checked op2).1, (checked op2).2⟩

theorem decodeBytes_two_encodesTo (b1 : Byte) : ∀ op ∈ twoByteOpcodes, EncodesTo (decodeBytes op b1 0) [op, b1] := by
  have cb : EncodesTo (decodeBytes 0xCB b1 0) [0xCB, b1] := decodeCb_encodesTo b1
  simp only [twoByteOpcodes, List.forall_mem_cons, List.not_mem_nil, false_imp_iff, implies_true, and_true, cb, true_and]
  and_intros <;> exact ⟨rfl, rfl⟩

/-- R107, R132: the two bytes of a joined word, the low one first. -/
theorem bytes16_joinBytes (lo hi : Byte) : bytes16 (joinBytes hi lo) = [lo, hi] := by
  rw [bytes16, lowByte_joinBytes, highByte_joinBytes]

theorem decodeBytes_three_encodesTo (b1 b2 : Byte) :
    ∀ op ∈ threeByteOpcodes, EncodesTo (decodeBytes op b1 b2) [op, b1, b2] := by
  simp only [threeByteOpcodes, List.forall_mem_cons, List.not_mem_nil, false_imp_iff, implies_true, and_true]
  and_intros <;> exact ⟨rfl, congrArg (List.cons _) (bytes16_joinBytes b1 b2)⟩

/-! ## The obligations -/

/-- Settles O1: each word is decoded by evaluation. -/
theorem wordsOfTheSpecDecode : Obligations.WordsOfTheSpecDecode :=
  ⟨rfl, rfl, rfl, rfl, rfl, rfl, rfl, rfl, rfl, rfl, rfl, rfl, rfl, rfl, rfl⟩

/-- Settles O2: the round trip of every row. -/
theorem decodeOfEncodeIsTheInstruction : Obligations.DecodeOfEncodeIsTheInstruction :=
  fun i rest hwf => Laws.RoundTrip.roundTrip i hwf rest

/-- Settles O3: the opcode decides how many of the three bytes are taken, and the instruction of each length has those bytes;
that it gives them back is the round trip again. -/
theorem encodeOfDecodeIsTheBytes : Obligations.EncodeOfDecodeIsTheBytes := by
  have taken (i : Instr) (bytes rest : List Byte) (h : EncodesTo i bytes) :
      ∃ (j : Instr) (left : List Byte), decode (bytes ++ rest) = .ok (j, left) ∧ j.WellFormed = true ∧
        encode j ++ left = bytes ++ rest := by
    obtain ⟨hwf, rfl⟩ := h
    exact ⟨i, rest, Laws.RoundTrip.roundTrip i hwf rest, hwf, rfl⟩
  intro op b1 b2
  by_cases h3 : op ∈ threeByteOpcodes
  · exact taken _ _ [] (decodeBytes_three_encodesTo b1 b2 op h3)
  · by_cases h2 : op ∈ twoByteOpcodes
    · exact taken _ _ [b2] (decodeBytes_two_encodesTo b1 op h2)
    · exact taken _ _ [b1, b2] (decodeBytes_one_encodesTo op h3 h2)

end Sys2Proof.Machine
end

section
/-! SUPPORT. What holds where an operation completes and where it ends in the fatal state; with it the obligation on
PREFIX CB. -/

namespace Sys2Proof.Machine

/-! ## Outcomes of an operation (R371) -/

/-- Q holds of what an operation gives, or E of the fatal state it ends in. -/
def Act.Post {α : Type} (act : Act α) (Q : α → Prop) (E : State → Prop) : Prop :=
  match act with
  | .ok a => Q a
  | .error t => E t

theorem Act.Post.imp {α : Type} {act : Act α} {Q Q' : α → Prop} {E : State → Prop} (h : act.Post Q E)
    (hQ : ∀ a, Q a → Q' a) : act.Post Q' E := by
  cases act with
  | ok a => exact hQ a h
  | error t => exact h

theorem Act.Post.bind {α β : Type} {act : Act α} {k : α → Act β} {Q : α → Prop} {Q' : β → Prop} {E : State → Prop}
    (h : act.Post Q E) (hk : ∀ a, Q a → (k a).Post Q' E) : (act >>= k).Post Q' E := by
  cases act with
  | ok a => exact hk a h
  | error t => exact h

theorem Act.post_of_endsIn {act : Act State} {Q : State → Prop} (h : ∀ t, act.endsIn t → Q t) : act.Post Q Q := by
  cases act with
  | ok t => exact h t (.inl rfl)
  | error t => exact h t (.inr rfl)

theorem State.readByte_post {s : State} {a : Word} {E : State → Prop}
    (hE : ∀ a, E (s.raise (.unmappedAccess a .read))) : (s.readByte a).Post (fun _ => True) E := by
  rw [s.readByte_eq]
  cases s.busRead a with
  | some v => trivial
  | none => exact hE a

/-- R12: a pop gives SP raised, or ends in a raise. -/
theorem State.pop16_post {s : State} {E : State → Prop} (hE : ∀ a, E (s.raise (.unmappedAccess a .read))) :
    s.pop16.Post (fun x => x.2 = s.setSp (s.regs.sp + 2)) E := by
  have word : (s.readWord s.regs.sp).Post (fun _ => True) E :=
    (State.readByte_post hE).bind fun _ _ => (State.readByte_post hE).bind fun _ _ => trivial
  exact word.bind fun _ _ => rfl

/-- Of an instruction's operation: with its cost where it completes. -/
theorem perform_post {m : Nat} {act : Act State} {R : State → Prop} {t : State}
    (h : act.Post (fun u => R { u with cost := m }) R) (ht : perform m act = .next t) : R t := by
  obtain ⟨u, rfl, rfl⟩ | rfl := perform_next ht
  · exact h
  · exact h

/-! ## The run state (R101, R371) -/

/-- R101: the machine is in the fatal state of a declined access. -/
def State.declined (t : State) : Prop := ∃ a d, t.run = .fatal (.unmappedAccess a d)

theorem dmaCopy_run (page : Byte) (l : List Nat) (s : State) :
    (dmaCopy page l s).Post (fun t => t.run = s.run) State.declined := by
  induction l generalizing s with
  | nil => exact rfl
  | cons i rest ih => exact (State.readByte_post fun a => ⟨a, .read, rfl⟩).bind fun v _ => ih _

/-- R101, R371: a byte write leaves the run state, or ends in the fatal state of a declined access. -/
theorem State.writeByte_run (s : State) (a : Word) (v : Byte) :
    (s.writeByte a v).Post (fun t => t.run = s.run) State.declined := by
  unfold State.writeByte
  cases region a with
  | cart =>
    cases s.cart.write a v with
    | some c => exact rfl
    | none => exact ⟨a, .write, rfl⟩
  | io r =>
    cases r with
    | dma => exact dmaCopy_run v _ _
    | _ => exact rfl
  | _ => exact rfl

/-! ## PREFIX CB (R145, R356) -/

/-- R140: the form of the CB instruction of a byte, from its fields. -/
def cbForm (op2 : Byte) : Form :=
  let x := op2.extractLsb' 6 2
  let y := op2.extractLsb' 3 3
  match fieldReg (op2.extractLsb' 0 3) with
  | some r =>
    if x = 0 then .shiftReg (fieldShift y) r
    else if x = 1 then .bitReg y.toFin r
    else if x = 2 then .resReg y.toFin r
    else .setReg y.toFin r
  | none =>
    if x = 0 then .shiftAtHL (fieldShift y)
    else if x = 1 then .bitAtHL y.toFin
    else if x = 2 then .resAtHL y.toFin
    else .setAtHL y.toFin

/-- R142: the CB map gives each byte the form of its fields. -/
theorem decodeCb_form : ∀ op2, (decodeCb op2).form = cbForm op2 := by
  decide +kernel

theorem execForm_cbForm (op2 : Byte) (s : State) : execForm (cbForm op2) s = cbPage op2 s := by
  unfold cbForm cbPage
  dsimp only
  cases fieldReg (op2.extractLsb' 0 3) <;> dsimp only <;> split_ifs <;> rfl

/-- R356: PREFIX CB executes the CB instruction of its byte. -/
theorem exec_prefixCb (op2 : Byte) (s : State) : exec (.prefixCb op2) s = exec (decodeCb op2) s := by
  rw [exec_eq_execForm (decodeCb op2), decodeCb_form, execForm_cbForm]
  rfl

/-- R134: every register field but (HL)'s names a register. -/
theorem fieldReg_isSome : ∀ z : BitVec 3, z ≠ 0b110 → (fieldReg z).isSome := by
  decide

/-- R286 to R306: a CB operation on a register completes at cost 2. -/
theorem cbPage_reg {op2 : Byte} (h : op2.extractLsb' 0 3 ≠ 0b110) (s : State) :
    ∃ t, cbPage op2 s = .next t ∧ s.changedRegs t 2 := by
  obtain ⟨r, hr⟩ := Option.isSome_iff_exists.mp (fieldReg_isSome _ h)
  unfold cbPage
  rw [hr]
  dsimp only
  split_ifs
  · exact ⟨_, rfl, (s.setReg_setFlags_updates r _ _ _ _ _ 2).1⟩
  · exact ⟨_, rfl, rfl⟩
  · exact ⟨_, rfl, s.changedRegs_setReg r _ 2⟩
  · exact ⟨_, rfl, s.changedRegs_setReg r _ 2⟩

theorem twoBits_cases : ∀ x : BitVec 2, x = 0b00 ∨ x = 0b01 ∨ x = 0b10 ∨ x = 0b11 := by
  decide

/-- R287 to R307: a CB operation on the byte at HL completes where its accesses do. -/
theorem cbPage_atHL {op2 : Byte} (h : op2.extractLsb' 0 3 = 0b110) {s : State} (hread : (s.busRead s.hl).isSome = true)
    (hwrite : ∀ w, s.accepts s.hl w = true) :
    ∃ t, cbPage op2 s = .next t ∧ t.run = s.run ∧ t.cost = if op2.extractLsb' 6 2 = 0b01 then 3 else 4 := by
  obtain ⟨v, hv⟩ := Option.isSome_iff_exists.mp hread
  have written (w : Byte) : ∃ t, s.writeByte s.hl w = .ok t ∧ t.run = s.run := by
    obtain ⟨t, ht, -⟩ := State.writeByte_accepted (hwrite w)
    have hrun := s.writeByte_run s.hl w
    rw [ht] at hrun
    exact ⟨t, ht, hrun⟩
  unfold cbPage
  rw [show fieldReg (op2.extractLsb' 0 3) = none by rw [h]; rfl]
  dsimp only
  generalize op2.extractLsb' 6 2 = x
  generalize op2.extractLsb' 3 3 = y
  obtain rfl | rfl | rfl | rfl := twoBits_cases x
  · obtain ⟨t, ht, hrun⟩ := written (shiftRes (fieldShift y) v s.flagC)
    exact ⟨_, shiftAtHL_next hv ht, hrun, rfl⟩
  · exact ⟨_, bitAtHL_next y.toFin hv, rfl, rfl⟩
  · obtain ⟨t, ht, hrun⟩ := written (clearBit v y.toFin)
    exact ⟨_, resAtHL_next hv ht, hrun, rfl⟩
  · obtain ⟨t, ht, hrun⟩ := written (setBit v y.toFin)
    exact ⟨_, setBitAtHL_next hv ht, hrun, rfl⟩

/-- Settles O22: the CB map's form of a byte is the one of its fields, whose operation PREFIX CB executes. -/
theorem prefixCbIsTheCbInstruction : Obligations.PrefixCbIsTheCbInstruction := by
  exact fun op2 s => ⟨exec_prefixCb op2 s, (decodeCb_encodesTo op2).wellFormed, rfl, fun h => cbPage_reg h s,
    fun h hread hwrite => cbPage_atHL h hread hwrite⟩

end Sys2Proof.Machine
end

section
/-! SUPPORT. Where byte accesses complete, the bytes that the block stores, and the reads that a write leaves; with them the
obligations on stored bytes, the stack law, the accepted writes and the reference cartridges. -/

namespace Sys2Proof.Machine

/-! ## Reference cartridges (R113) -/

/-- R113: one of the three variants. -/
def Cart.isReference (c : Cart) : Prop := ∀ d w, c ≠ .other d w

theorem Cart.isReference_read {c : Cart} (h : c.isReference) (a : Word) : (c.read a).isSome = true := by
  cases c with
  | other d w => exact absurd rfl (h d w)
  | none => rfl
  | nonBanked image => unfold Cart.read; dsimp only; split <;> rfl
  | banked image bank => unfold Cart.read; dsimp only; split <;> rfl

theorem Cart.isReference_write {c : Cart} (h : c.isReference) (a : Word) (v : Byte) :
    ∃ c', c.write a v = some c' ∧ c'.isReference := by
  cases c with
  | other d w => exact absurd rfl (h d w)
  | none => exact ⟨_, rfl, nofun⟩
  | nonBanked image => exact ⟨_, rfl, nofun⟩
  | banked image bank =>
    unfold Cart.write
    dsimp only
    split <;> exact ⟨_, rfl, nofun⟩

theorem State.busRead_isSome {s : State} (h : s.cart.isReference) (a : Word) : (s.busRead a).isSome = true := by
  unfold State.busRead
  cases region a with
  | cart => exact Cart.isReference_read h a
  | _ => rfl

theorem State.accepts_of_isReference {s : State} (h : s.cart.isReference) (a : Word) (v : Byte) : s.accepts a v = true := by
  unfold State.accepts
  cases region a with
  | cart =>
    obtain ⟨c, hc, -⟩ := Cart.isReference_write h a v
    exact hc ▸ rfl
  | io r =>
    cases r with
    | dma => exact List.all_eq_true.mpr fun i _ => State.busRead_isSome h _
    | _ => rfl
  | _ => rfl

theorem State.writeByte_isReference {s t : State} {a : Word} {v : Byte} (h : s.cart.isReference)
    (hw : (s.writeByte a v).endsIn t) : t.cart.isReference := by
  refine State.writeByte_induction (P := fun t => t.cart.isReference) (fun c hc => ?_) h (fun _ _ => h) h h
    (fun r _ u hu => ?_) hw
  · obtain ⟨c', hc', href⟩ := Cart.isReference_write h a v
    obtain rfl : c' = c := Option.some.inj (hc'.symm.trans hc)
    exact href
  · obtain ⟨-, -, hcart, -⟩ := State.ioWrite_frame hu
    show u.cart.isReference
    rwa [hcart]

/-! ## Stored bytes (R91 to R95) -/

theorem storesBytes_iff {a : Word} : storesBytes a ↔ ∃ key, region a = .store key := by
  simp only [region_store, storesBytes]
  constructor
  · intro h
    by_cases hecho : 0xE000 ≤ a.toNat ∧ a.toNat < 0xFE00
    · exact ⟨_, .inr ⟨rfl, hecho⟩⟩
    · exact ⟨_, .inl ⟨rfl, by omega⟩⟩
  · rintro ⟨key, h⟩
    omega

theorem State.writeByte_store (s : State) {a : Word} {key : Nat} (v : Byte) (h : region a = .store key) :
    s.writeByte a v = .ok { s with mem := s.mem.write key v } := by
  rw [State.writeByte, h]

/-- R92: a stored byte is read at the addresses of its own store only. -/
theorem State.busRead_write_store_other {s : State} {a b : Word} {key : Nat} (v : Byte) (ha : region a = .store key)
    (hb : region b ≠ .store key) : State.busRead { s with mem := s.mem.write key v } b = s.busRead b := by
  refine State.busRead_mem_congr (fun key' hkey' => Memory.read_write_other _ _ fun h => hb (h ▸ hkey'))
    (fun hplain => Memory.read_write_other _ _ ?_)
  have hkey := (region_store_key ha).2
  have hio := (region_io.mp hplain).1
  omega

theorem State.busRead_write_store_same {s : State} {a : Word} {key : Nat} (v : Byte) (hwf : s.mem.wf = true)
    (ha : region a = .store key) : State.busRead { s with mem := s.mem.write key v } a = some v := by
  rw [State.busRead_store _ ha]
  exact congrArg some (Memory.read_write_same hwf key v)

/-- R94: the echo names the bytes of work memory. -/
theorem region_echo {k : Nat} (hk : k < 7680) :
    region (BitVec.ofNat 16 (0xC000 + k)) = .store (0xC000 + k) ∧
      region (BitVec.ofNat 16 (0xE000 + k)) = .store (0xC000 + k) := by
  constructor <;> rw [region_store, BitVec.toNat_ofNat] <;> omega

/-- R91: no two neighbouring addresses share a stored byte. -/
theorem region_store_succ {a : Word} {key : Nat} (ha : region a = .store key) : region (a + 1) ≠ .store key := by
  intro h
  rw [region_store] at ha h
  bv_omega

/-! ## The obligations -/

/-- Settles O36: a write to a stored address is one byte at its key, which only the addresses of that key read; the echo has
the keys of work memory. -/
theorem storedBytesReadBack : Obligations.StoredBytesReadBack := by
  refine ⟨fun s a v hwf ha => ?stored, fun s k v hk => ?echo⟩
  case stored =>
    obtain ⟨key, hkey⟩ := storesBytes_iff.mp ha
    exact ⟨_, s.writeByte_store v hkey, State.busRead_write_store_same v hwf hkey,
      fun b hb => State.busRead_write_store_other v hkey (hkey ▸ hb), rfl, Memory.write_wf hwf key v⟩
  case echo =>
    obtain ⟨ha, hb⟩ := region_echo hk
    refine ⟨?_, ?_, fun hwf => ⟨_, s.writeByte_store v hb, State.busRead_write_store_same v hwf ha⟩⟩
    · rw [s.busRead_store ha, s.busRead_store hb]
    · rw [s.writeByte_store v ha, s.writeByte_store v hb]

/-- Settles O11: both bytes are stored, the second leaves the first as it reads, and the pop reads them at the lowered SP. -/
theorem popReturnsThePushedWord : Obligations.PopReturnsThePushedWord := by
  intro i j s p q hi hj hwf hlow hhigh
  obtain ⟨klo, hlo⟩ := storesBytes_iff.mp hlow
  obtain ⟨khi, hhi⟩ := storesBytes_iff.mp hhigh
  have next : s.regs.sp - 1 = s.regs.sp - 2 + 1 := by bv_omega
  rw [next] at hhi
  let s1 : State := { s.setSp (s.regs.sp - 2) with mem := s.mem.write klo (lowByte (s.pair p)) }
  let s2 : State := { s1 with mem := s1.mem.write khi (highByte (s.pair p)) }
  have hpush : exec i s = .next { s2 with cost := 4 } :=
    (exec_of_form hi s).trans (pushPair_next (State.push16_ok (State.writeByte_store _ _ hlo) (s1.writeByte_store _ hhi)))
  have readHigh : s2.busRead (s.regs.sp - 2 + 1) = some (highByte (s.pair p)) :=
    State.busRead_write_store_same _ (Memory.write_wf hwf _ _) hhi
  have readLow : s2.busRead (s.regs.sp - 2) = some (lowByte (s.pair p)) :=
    (State.busRead_write_store_other _ hhi fun h => region_store_succ h hhi).trans
      (State.busRead_write_store_same (s := s.setSp (s.regs.sp - 2)) _ hwf hlo)
  have hpop := (exec_of_form hj { s2 with cost := 4 }).trans (popPair_next q readLow readHigh)
  rw [joinBytes_highByte_lowByte] at hpop
  have hSP : q ≠ .SP := by simpa [hj, namesLegalPair] using form_namesLegalPair j
  refine ⟨_, _, hpush, hpop, rfl, ?sp, ?pair⟩
  case sp =>
    exact (State.setPair_regs_sp hSP _ _).trans (show s.regs.sp - 2 + 2 = s.regs.sp by bv_omega)
  case pair =>
    by_cases hAF : q = .AF
    · subst hAF
      exact State.pair_setPair_AF _ _
    · rw [if_neg hAF]
      exact State.pair_setPair _ q _ hAF

/-- Settles O42: `accepts` says whether the bus write completes, and a write that does not ends as `writeByte_run` says. -/
theorem writesCompleteWhereAccepted : Obligations.WritesCompleteWhereAccepted := by
  refine fun s a v => ⟨fun hacc => ?accepted, fun hacc => ⟨?declined, fun hcart => ?cart⟩⟩
  case accepted =>
    obtain ⟨t, ht, -⟩ := State.writeByte_accepted hacc
    exact ⟨t, ht⟩
  case declined =>
    obtain ⟨t, ht⟩ := State.writeByte_declined hacc
    have hrun := s.writeByte_run a v
    rw [ht] at hrun
    obtain ⟨b, d, hrun⟩ := hrun
    exact ⟨t, b, d, ht, hrun⟩
  case cart =>
    rw [State.accepts, hcart] at hacc
    rw [State.writeByte, hcart]
    dsimp only at hacc ⊢
    rw [Option.isNone_iff_eq_none.mp (Option.isSome_eq_false_iff.mp hacc)]
    rfl

theorem toNat_selectedBank (v : Byte) : (selectedBank v).toNat = if v.toNat % 32 = 0 then 1 else v.toNat % 32 := by
  have low : (v.extractLsb' 0 5).toNat = v.toNat % 32 := by simp
  have hzero : v.extractLsb' 0 5 = 0 ↔ v.toNat % 32 = 0 := by rw [← low, ← BitVec.toNat_inj]; rfl
  unfold selectedBank
  simp only [hzero]
  split
  · rfl
  · exact low

/-- Settles O43: a reference cartridge answers every access, and so does the bus. -/
theorem referenceCartridges : Obligations.ReferenceCartridges := by
  refine ⟨fun s href a v => ⟨Option.isSome_iff_exists.mp (State.busRead_isSome href a), ?write⟩, fun image bank a v =>
    ⟨rfl, rfl, fun h => if_pos h, rfl, fun hlow hhigh => ?bankRead, fun hlow hhigh => ?bankWrite⟩⟩
  case write =>
    obtain ⟨t, ht, -⟩ := State.writeByte_accepted (State.accepts_of_isReference href a v)
    exact ⟨t, ht, State.writeByte_isReference href (.inl ht)⟩
  case bankRead =>
    refine (if_pos hhigh).trans ?_
    rw [bankedOffset, if_neg (Nat.not_lt.mpr hlow)]
  case bankWrite => exact ⟨_, if_pos ⟨hlow, hhigh⟩, toNat_selectedBank v⟩

end Sys2Proof.Machine
end

section
/-! SUPPORT. The reads that a write leaves as they are (R92, R110). -/

namespace Sys2Proof.Machine

/-! ## The reads that a write affects (R92, R110) -/

/-- R98: the address of a register of the I/O range. -/
def IoReg.addr : IoReg → Word
  | .joyp => 0xFF00
  | .div => 0xFF04
  | .tima => 0xFF05
  | .tma => 0xFF06
  | .tac => 0xFF07
  | .iflag => 0xFF0F
  | .lcdc => 0xFF40
  | .stat => 0xFF41
  | .scy => 0xFF42
  | .scx => 0xFF43
  | .ly => 0xFF44
  | .lyc => 0xFF45
  | .dma => 0xFF46
  | .bgp => 0xFF47
  | .obp0 => 0xFF48
  | .obp1 => 0xFF49
  | .wy => 0xFF4A
  | .wx => 0xFF4B
  | .plain => 0xFF01

/-- R98: a register is at one address alone. -/
theorem eq_addr_of_ioReg {a : Word} {r : IoReg} (h : ioReg a = r) (hr : r ≠ .plain) : a = r.addr := by
  by_contra ha
  cases r
  case plain => exact hr rfl
  all_goals
    rw [IoReg.addr] at ha
    simp only [ioReg, if_neg ha, ite_eq_iff, reduceCtorEq, and_false, or_false] at h

/-- R110: the registers whose reads a write of a register may change. -/
def IoReg.reached : IoReg → List IoReg
  | .ly => []
  | .lcdc => [.lcdc, .stat, .ly]
  | .lyc => [.stat, .lyc]
  | r => [r]

/-- R49, R416: what a write to LCDC may change of the display. -/
theorem Display.writeLcdc_only (d : Display) (v : Byte) :
    d.writeLcdc v = { d with lcdc := v, ly := (d.writeLcdc v).ly, mode := (d.writeLcdc v).mode,
                             modeClock := (d.writeLcdc v).modeClock, fb := (d.writeLcdc v).fb } := by
  unfold Display.writeLcdc
  cases v.getLsbD 7 <;> rfl

/-- R110: the write of a register leaves those that it does not reach as they read. -/
theorem State.ioRead_of_not_reached {s t : State} {a b : Word} {r r' : IoReg} {v : Byte} (hdma : r ≠ .dma)
    (hplain : r ≠ .plain) (h : (s.ioWrite a r v).endsIn t) (hr' : r' ∉ r.reached) : t.ioRead b r' = s.ioRead b r' := by
  cases r
  case dma => exact absurd rfl hdma
  case plain => exact absurd rfl hplain
  case lcdc =>
    obtain rfl := endsIn_ok h
    rw [Display.writeLcdc_only]
    cases r' <;> simp [IoReg.reached, State.ioRead, State.joypad] at hr' ⊢
  all_goals
    obtain rfl := endsIn_ok h
    cases r' <;> simp [IoReg.reached, State.ioRead, State.joypad, Display.stat, Timer.writeTac] at hr' ⊢

/-- R110: `affects` says of every register that a write reaches that it may change. -/
theorem affects_of_reached {a b : Word} {r r' : IoReg} (ha : region a = .io r) (hb : region b = .io r') (hdma : r ≠ .dma)
    (hplain : r ≠ .plain) (h : r' ∈ r.reached) : affects a b = true := by
  have hr' : r' ≠ .plain := by rintro rfl; cases r <;> simp [IoReg.reached] at h hplain
  obtain rfl := eq_addr_of_ioReg (region_io.mp ha).2 hplain
  obtain rfl := eq_addr_of_ioReg (region_io.mp hb).2 hr'
  rw [affects, ha]
  cases r
  case dma => exact absurd rfl hdma
  case plain => exact absurd rfl hplain
  all_goals
    revert h
    cases r' <;> decide

/-- A read looks at the cartridge, the stored bytes, the registers of the I/O range and IE. -/
theorem State.busRead_congr {s t : State} {b : Word} (hcart : region b = .cart → t.cart = s.cart)
    (hmem : ∀ key, region b = .store key → t.mem = s.mem) (hio : ∀ r, region b = .io r → t.ioRead b r = s.ioRead b r)
    (hie : region b = .ie → t.ieHigh = s.ieHigh ∧ t.ints.ie = s.ints.ie) : t.busRead b = s.busRead b := by
  unfold State.busRead
  cases hb : region b with
  | cart => dsimp only; rw [hcart hb]
  | store key => dsimp only; rw [hmem key hb]
  | unusable => rfl
  | io r => exact congrArg some (hio r hb)
  | ie => dsimp only; rw [(hie hb).1, (hie hb).2]

theorem State.ioWrite_mem {s t : State} {a : Word} {r : IoReg} {v : Byte} (hdma : r ≠ .dma) (hplain : r ≠ .plain)
    (h : (s.ioWrite a r v).endsIn t) : t.mem = s.mem := by
  cases r
  case dma => exact absurd rfl hdma
  case plain => exact absurd rfl hplain
  all_goals exact endsIn_ok h ▸ rfl

/-- R102, R110: a write in the I/O range changes no read but those it affects. -/
theorem State.busRead_of_ioWrite {s t : State} {a b : Word} {r : IoReg} {v : Byte} (ha : region a = .io r)
    (h : (s.ioWrite a r v).endsIn t) (hb : affects a b = false) : t.busRead b = s.busRead b := by
  by_cases hdma : r = .dma
  · subst hdma
    rw [affects, ha, Bool.or_eq_false_iff] at hb
    obtain ⟨hne, hout⟩ := hb
    have outside : b.toNat < 0xFE00 ∨ 0xFEA0 ≤ b.toNat := by
      simpa only [Bool.and_eq_false_iff, decide_eq_false_iff_not, Nat.not_le, Nat.not_lt] using hout
    obtain ⟨ht, hmem⟩ := writeDma_frame h
    calc t.busRead b
      _ = State.busRead { s with dmaReg := v, mem := t.mem } b := by rw [ht]; rfl
      _ = State.busRead { s with dmaReg := v } b :=
        State.busRead_congr_outside_oam (s := { s with dmaReg := v }) outside hmem
      _ = s.busRead b := State.busRead_dmaReg v (of_decide_eq_false hne)
  by_cases hplain : r = .plain
  · subst hplain
    rw [affects, ha] at hb
    obtain rfl := endsIn_ok h
    exact State.busRead_write_plainIo_other v (region_plainIo.mp ha) (of_decide_eq_false hb)
  obtain ⟨-, hints, hcart, -, -, hie⟩ := State.ioWrite_frame h
  refine State.busRead_congr (fun _ => hcart) (fun _ _ => State.ioWrite_mem hdma hplain h) (fun r' hr' => ?reg)
    (fun _ => ⟨hie, by rw [hints]⟩)
  case reg =>
    refine State.ioRead_of_not_reached hdma hplain h fun hreached => ?_
    rw [affects_of_reached ha hr' hdma hplain hreached] at hb
    cases hb

/-- R92, R110: a byte write changes no read but those it affects. -/
theorem State.busRead_of_not_affects {s t : State} {a b : Word} {v : Byte} (h : (s.writeByte a v).endsIn t)
    (hb : affects a b = false) : t.busRead b = s.busRead b := by
  unfold State.writeByte at h
  cases ha : region a with
  | cart =>
    rw [affects, ha] at hb
    have hcart : region b ≠ .cart := of_decide_eq_false hb
    rw [ha] at h
    dsimp only at h
    cases hw : s.cart.write a v with
    | some c =>
      rw [hw] at h
      obtain rfl := endsIn_ok h
      exact State.busRead_congr (fun hc => absurd hc hcart) (fun _ _ => rfl) (fun r _ => by cases r <;> rfl)
        fun _ => ⟨rfl, rfl⟩
    | none =>
      rw [hw] at h
      obtain h | h := h <;> cases h
      rfl
  | store key =>
    rw [affects, ha] at hb
    rw [ha] at h
    obtain rfl := endsIn_ok h
    exact State.busRead_write_store_other v ha (of_decide_eq_false hb)
  | unusable =>
    rw [ha] at h
    rw [endsIn_ok h]
  | ie =>
    rw [affects, ha] at hb
    rw [ha] at h
    obtain rfl := endsIn_ok h
    exact State.busRead_congr (fun _ => rfl) (fun _ _ => rfl) (fun r _ => by cases r <;> rfl)
      fun hie => absurd (region_ie.mp hie) (of_decide_eq_false hb)
  | io r =>
    rw [ha] at h
    exact State.busRead_of_ioWrite ha h hb

end Sys2Proof.Machine
end

section
/-! SUPPORT. What each form may do to the state (R36, R200, R350 and the columns of the opcode table), said once for all
forms: a statement about every instruction is a `Form.Contract` for the predicate it is about. -/

namespace Sys2Proof.Machine

/-! ## The changes a form may make -/

/-- The form has a letter other than `-` in its flags column. -/
def writesFlags (f : Form) : Bool := decide (f.flagColumn ≠ ⟨.kept, .kept, .kept, .kept⟩)

/-- R33: flags that a column lets an instruction leave, which it found as they are in s. -/
def columnAllows (col : FlagColumn) (s : State) (z n h c : Bool) : Prop :=
  col.z.allows s.flagZ z ∧ col.n.allows s.flagN n ∧ col.h.allows s.flagH h ∧ col.c.allows s.flagC c

/-- R92: an address among those at which a form stores. -/
def storesAt (f : Form) (s : State) (a : Word) : Prop :=
  ∃ first n k, f.writeAddr s = some (first, n) ∧ k < n ∧ a = first + BitVec.ofNat 16 k

/-- R350: the forms that act on the interrupt controller. -/
def actsOnController (f : Form) : Prop := f = .di ∨ f = .ei ∨ f = .halt ∨ f = .reti

/-- Where a form's operation completes, P held before it wrote the flags, or holds where it writes none. -/
inductive Completed (f : Form) (s : State) (P : State → Prop) : State → Prop
  | plain {u : State} : writesFlags f = false → P u → Completed f s P u
  | flags {u : State} {z n h c : Bool} :
    writesFlags f = true → columnAllows f.flagColumn s z n h c → P u → Completed f s P (u.setFlags z n h c)

/-- P is kept by the changes that form f may make from state s, and R follows where the instruction ends: with a cost of its
cycles column, or in the fatal state. -/
structure Contract (f : Form) (s : State) (P R : State → Prop) : Prop where
  reg : ∀ t r v, r ∈ f.regsWritten → P t → P (t.setReg r v)
  sp : ∀ t v, f.writesSp = true → P t → P (t.setSp v)
  pc : ∀ t v, f.writesPc = true → P t → P (t.setPc v)
  write : ∀ t a v, storesAt f s a → P t → (t.writeByte a v).Post P R
  switches : ∀ t ime halted ei di, actsOnController f → P t →
    P { t with ints := { t.ints with ime := ime, halted := halted, eiDelay := ei, diDelay := di } }
  raise : ∀ t k, P t → R (t.raise k)
  completes : ∀ u m, Completed f s P u → m ∈ f.cycles → R { u with cost := m }

section
variable {f : Form} {s : State} {P R : State → Prop} (hc : Contract f s P R)
include hc

theorem Contract.finish {u t : State} {m : Nat} (h : finish m u = .next t) (hm : m ∈ f.cycles) (hu : Completed f s P u) :
    R t := by
  cases h
  exact hc.completes u m hu hm

theorem Contract.perform {act : Act State} {t : State} {m : Nat} (h : perform m act = .next t) (hm : m ∈ f.cycles)
    (hact : act.Post (Completed f s P) R) : R t :=
  perform_post (hact.imp fun u hu => hc.completes u m hu hm) h

theorem Contract.pair {t : State} {p : Pair} (v : Word) (hAF : p ≠ .AF) (hregs : ∀ r ∈ pairRegs p, r ∈ f.regsWritten)
    (hsp : p = .SP → f.writesSp = true) (ht : P t) : P (t.setPair p v) := by
  cases p with
  | AF => exact absurd rfl hAF
  | SP => exact hc.sp t v (hsp rfl) ht
  | BC => exact hc.reg _ _ _ (hregs .C (by decide)) (hc.reg t _ _ (hregs .B (by decide)) ht)
  | DE => exact hc.reg _ _ _ (hregs .E (by decide)) (hc.reg t _ _ (hregs .D (by decide)) ht)
  | HL => exact hc.reg _ _ _ (hregs .L (by decide)) (hc.reg t _ _ (hregs .H (by decide)) ht)

theorem Contract.read {a : Word} {k : Byte → Act State} (hs : P s) (hk : ∀ v, (k v).Post (Completed f s P) R) :
    (s.readByte a >>= k).Post (Completed f s P) R :=
  (State.readByte_post fun _ => hc.raise s _ hs).bind fun v _ => hk v

theorem Contract.pop {k : Word × State → Act State} (hsp : f.writesSp = true) (hs : P s)
    (hk : ∀ x, P x.2 → (k x).Post (Completed f s P) R) : (s.pop16 >>= k).Post (Completed f s P) R :=
  (State.pop16_post fun _ => hc.raise s _ hs).bind fun x hx => hk x (hx ▸ hc.sp s _ hsp hs)

/-- A byte write is of no register. -/
theorem Contract.writeByte {a : Word} {v : Byte} (ha : f.writeAddr s = some (a, 1)) (hs : P s) :
    (s.writeByte a v).Post (fun u => P u ∧ u.regs = s.regs) R := by
  have hstores : storesAt f s a := ⟨a, 1, 0, ha, Nat.one_pos, (BitVec.add_zero a).symm⟩
  have hpost := hc.write s a v hstores hs
  cases hw : s.writeByte a v with
  | ok u =>
    rw [hw] at hpost
    exact ⟨hpost, (State.writeByte_frame (.inl hw)).1⟩
  | error u =>
    rw [hw] at hpost
    exact hpost

theorem Contract.writeWord {t : State} {a v : Word} (ha : f.writeAddr s = some (a, 2)) (ht : P t) :
    (t.writeWord a v).Post P R := by
  have low : storesAt f s a := ⟨a, 2, 0, ha, Nat.two_pos, (BitVec.add_zero a).symm⟩
  have high : storesAt f s (a + 1) := ⟨a, 2, 1, ha, Nat.one_lt_two, rfl⟩
  exact (hc.write t a _ low ht).bind fun u hu => hc.write u _ _ high hu

theorem Contract.push {v : Word} (hsp : f.writesSp = true) (ha : f.writeAddr s = some (s.regs.sp - 2, 2)) (hs : P s) :
    (s.push16 v).Post P R :=
  hc.writeWord ha (hc.sp s _ hsp hs)

theorem Contract.callTo {target : Word} (hsp : f.writesSp = true) (ha : f.writeAddr s = some (s.regs.sp - 2, 2))
    (hpc : f.writesPc = true) (hf : writesFlags f = false) (hs : P s) : (s.callTo target).Post (Completed f s P) R :=
  (hc.push hsp ha hs).bind fun u hu => .plain hf (hc.pc u target hpc hu)

theorem Contract.returnFromCall (hsp : f.writesSp = true) (hpc : f.writesPc = true) (hf : writesFlags f = false) (hs : P s) :
    s.returnFromCall.Post (Completed f s P) R :=
  hc.pop hsp hs fun x hx => .plain hf (hc.pc x.2 x.1 hpc hx)

end

theorem setF_eq_setFlags (s : State) (v : Byte) :
    s.setF v = s.setFlags (v.getLsbD 7) (v.getLsbD 6) (v.getLsbD 5) (v.getLsbD 4) := by
  have masked : ∀ v : Byte, v &&& 0xF0 = packFlags (v.getLsbD 7) (v.getLsbD 6) (v.getLsbD 5) (v.getLsbD 4) := by
    decide +kernel
  rw [State.setFlags, State.setF, State.setF, packFlags_masked, masked]

/-- R220 to R247: the flags that an ALU operation writes, by its column. -/
theorem Contract.alu {f : Form} {s : State} {P R : State → Prop} (hc : Contract f s P R) {op : AluOp} (b : Byte)
    (hcol : f.flagColumn = (Form.aluAtHL op).flagColumn) (hregs : f.regsWritten = if op = .cp then [] else [.A]) (hs : P s) :
    Completed f s P (s.alu op b) := by
  have hflags : writesFlags f = true := by
    rw [writesFlags, hcol]
    cases op <;> rfl
  refine .flags hflags ?allowed ?res
  case allowed =>
    rw [hcol]
    cases op
    case add | adc => exact ⟨trivial, rfl, trivial, trivial⟩
    case sub | sbc | cp => exact ⟨trivial, rfl, trivial, trivial⟩
    case and | xor | or => exact ⟨trivial, rfl, rfl, rfl⟩
  case res =>
    split
    · exact hs
    · exact hc.reg s .A _ (by rw [hregs, if_neg ‹_›]; exact .head _) hs

/-- R280: the flags that a CB rotate or shift writes, by its column; SWAP has no carry out. -/
theorem shift_allowed (op : ShiftOp) (r : Reg8) (s : State) (v : Byte) (z : Bool) :
    columnAllows (Form.shiftReg op r).flagColumn s z false false (shiftCarry op v) := by
  cases op
  case swap => exact ⟨trivial, rfl, rfl, rfl⟩
  all_goals exact ⟨trivial, rfl, rfl, trivial⟩

theorem flagColumn_shiftAtHL (op : ShiftOp) (r : Reg8) : (Form.shiftAtHL op).flagColumn = (Form.shiftReg op r).flagColumn := by
  cases op <;> rfl

theorem writesFlags_shiftReg (op : ShiftOp) (r : Reg8) : writesFlags (.shiftReg op r) = true := by
  cases op <;> rfl

/-- R200: of the pops only that of AF writes the flags. -/
theorem writesFlags_pop {qq : Pair} (h : qq ≠ .AF) : writesFlags (.pop qq) = false := by
  cases qq with
  | AF => exact absurd rfl h
  | _ => rfl

/-- Whatever the changes of a form keep holds where the form's meaning ends. -/
theorem Contract.execForm {f : Form} {s t : State} {P R : State → Prop} (hc : Contract f s P R)
    (hcb : ∀ op2, f ≠ .prefixCb op2) (hpair : namesLegalPair f = true) (hs : P s) (h : execForm f s = .next t) : R t := by
  cases f with
  | ldRegReg d r => exact hc.finish h (.head _) (.plain rfl (hc.reg s d _ (.head _) hs))
  | ldRegImm d n8 => exact hc.finish h (.head _) (.plain rfl (hc.reg s d n8 (.head _) hs))
  | ldRegAtHL d => exact hc.perform h (.head _) (hc.read hs fun v => .plain rfl (hc.reg s d v (.head _) hs))
  | ldAtHLReg | ldAtHLImm | ldAtPairA | ldAtImmA | ldhAtImmA | ldAtCA =>
    exact hc.perform h (.head _) ((hc.writeByte rfl hs).imp fun u hu => .plain rfl hu.1)
  | ldAAtPair | ldAAtImm | ldhAAtImm | ldAAtC =>
    exact hc.perform h (.head _) (hc.read hs fun v => .plain rfl (hc.reg s .A v (.head _) hs))
  | ldAtHLincA | ldAtHLdecA =>
    exact hc.perform h (.head _) ((hc.writeByte rfl hs).bind fun u hu =>
      .plain rfl (hc.pair (p := .HL) _ nofun (fun _ hr => hr) nofun hu.1))
  | ldAAtHLinc | ldAAtHLdec =>
    exact hc.perform h (.head _) (hc.read hs fun v =>
      .plain rfl (hc.pair (p := .HL) _ nofun (fun _ hr => .tail _ hr) nofun (hc.reg s .A v (.head _) hs)))
  | ldPairImm p | incPair p | decPair p =>
    have hAF : p ≠ .AF := by simpa [namesLegalPair] using hpair
    exact hc.finish h (.head _) (.plain rfl (hc.pair _ hAF (fun _ hr => hr) (fun hp => hp ▸ rfl) hs))
  | ldAtImmSP n16 => exact hc.perform h (.head _) ((hc.writeWord rfl hs).imp fun u hu => .plain rfl hu)
  | ldSPHL => exact hc.finish h (.head _) (.plain rfl (hc.sp s _ rfl hs))
  | ldHLSPe8 | addHLPair =>
    exact hc.finish h (.head _) (
      .flags rfl ⟨rfl, rfl, trivial, trivial⟩ (hc.pair (p := .HL) _ nofun (fun _ hr => hr) nofun hs))
  | addSPe8 => exact hc.finish h (.head _) (.flags rfl ⟨rfl, rfl, trivial, trivial⟩ (hc.sp s _ rfl hs))
  | push qq => exact hc.perform h (.head _) ((hc.push rfl rfl hs).imp fun u hu => .plain rfl hu)
  | pop qq =>
    refine hc.perform h (.head _) (hc.pop rfl hs fun x hx => ?_)
    by_cases hAF : qq = .AF
    · subst hAF
      show Completed _ _ _ ((x.2.setReg .A (highByte x.1)).setF (lowByte x.1))
      rw [setF_eq_setFlags]
      exact .flags rfl ⟨trivial, trivial, trivial, trivial⟩ (hc.reg _ _ _ (.head _) hx)
    · exact .plain (writesFlags_pop hAF) (hc.pair _ hAF (fun r hr => hr) (fun _ => rfl) hx)
  | aluReg op r => exact hc.finish h (.head _) (hc.alu _ rfl rfl hs)
  | aluImm op n8 => exact hc.finish h (.head _) (hc.alu n8 rfl rfl hs)
  | aluAtHL op =>
    exact hc.perform h (.head _) (hc.read hs fun v => hc.alu v rfl rfl hs)
  | incReg r | decReg r =>
    exact hc.finish h (.head _) (.flags rfl ⟨trivial, rfl, trivial, s.setReg_flagC _ _⟩ (hc.reg s r _ (.head _) hs))
  | incAtHL | decAtHL =>
    exact hc.perform h (.head _) (hc.read hs fun v => (hc.writeByte rfl hs).bind fun u hu =>
      .flags rfl ⟨trivial, rfl, trivial, State.flagC_congr (congrArg Regs.f hu.2)⟩ hu.1)
  | daa => exact hc.finish h (.head _) (.flags rfl ⟨trivial, rfl, rfl, trivial⟩ (hc.reg s .A _ (.head _) hs))
  | cpl => exact hc.finish h (.head _) (.flags rfl ⟨rfl, rfl, rfl, rfl⟩ (hc.reg s .A _ (.head _) hs))
  | scf => exact hc.finish h (.head _) (.flags rfl ⟨rfl, rfl, rfl, rfl⟩ hs)
  | ccf => exact hc.finish h (.head _) (.flags rfl ⟨rfl, rfl, rfl, trivial⟩ hs)
  | rotA op => exact hc.finish h (.head _) (.flags rfl ⟨rfl, rfl, rfl, trivial⟩ (hc.reg s .A _ (.head _) hs))
  | shiftReg op r =>
    exact hc.finish h (.head _) (.flags (writesFlags_shiftReg op r) (shift_allowed op r s _ _) (hc.reg s r _ (.head _) hs))
  | shiftAtHL op =>
    have hcol := flagColumn_shiftAtHL op .A
    refine hc.perform h (.head _) (hc.read hs fun v => (hc.writeByte rfl hs).bind fun u hu => .flags ?_ ?_ hu.1)
    · exact (congrArg (fun col : FlagColumn => decide (col ≠ _)) hcol).trans (writesFlags_shiftReg op .A)
    · exact hcol ▸ shift_allowed op .A s v _
  | bitReg b r => exact hc.finish h (.head _) (.flags rfl ⟨trivial, rfl, rfl, rfl⟩ hs)
  | bitAtHL b => exact hc.perform h (.head _) (hc.read hs fun v => .flags rfl ⟨trivial, rfl, rfl, rfl⟩ hs)
  | resReg b r | setReg b r => exact hc.finish h (.head _) (.plain rfl (hc.reg s r _ (.head _) hs))
  | resAtHL | setAtHL =>
    exact hc.perform h (.head _) (hc.read hs fun v => (hc.writeByte rfl hs).imp fun u hu => .plain rfl hu.1)
  | jp | jpHL | jr => exact hc.finish h (.head _) (.plain rfl (hc.pc s _ rfl hs))
  | jpCond cc | jrCond cc =>
    simp only [Machine.execForm, Machine.jpCond, Machine.jrCond] at h
    split at h
    · exact hc.finish h (.tail _ (.head _)) (.plain rfl (hc.pc s _ rfl hs))
    · exact hc.finish h (.head _) (.plain rfl hs)
  | call => exact hc.perform h (.head _) (hc.callTo rfl rfl rfl rfl hs)
  | rst => exact hc.perform h (.head _) (hc.callTo rfl rfl rfl rfl hs)
  | callCond cc n16 =>
    cases hcc : s.holds cc with
    | true =>
      exact hc.perform ((callCond_taken hcc n16).symm.trans h) (.tail _ (.head _)) (hc.callTo rfl (if_pos hcc) rfl rfl hs)
    | false => exact hc.finish ((callCond_untaken hcc n16).symm.trans h) (.head _) (.plain rfl hs)
  | ret => exact hc.perform h (.head _) (hc.returnFromCall rfl rfl rfl hs)
  | retCond cc =>
    cases hcc : s.holds cc with
    | true => exact hc.perform ((retCond_taken hcc).symm.trans h) (.tail _ (.head _)) (hc.returnFromCall rfl rfl rfl hs)
    | false => exact hc.finish ((retCond_untaken hcc).symm.trans h) (.head _) (.plain rfl hs)
  | reti =>
    exact hc.perform h (.head _) (hc.pop rfl hs fun x hx =>
      .plain rfl (hc.switches _ _ _ _ _ (.inr (.inr (.inr rfl))) (hc.pc x.2 x.1 rfl hx)))
  | nop | stop => exact hc.finish h (.head _) (.plain rfl hs)
  | halt => exact hc.finish h (.head _) (.plain rfl (hc.switches s _ _ _ _ (.inr (.inr (.inl rfl))) hs))
  | di => exact hc.finish h (.head _) (.plain rfl (hc.switches s _ _ _ _ (.inl rfl) hs))
  | ei => exact hc.finish h (.head _) (.plain rfl (hc.switches s _ _ _ _ (.inr (.inl rfl)) hs))
  | prefixCb op2 => exact absurd rfl (hcb op2)
  | illegal op =>
    cases h
    exact hc.raise s _ hs

end Sys2Proof.Machine
end

section
/-! SUPPORT. The contracts of every instruction: what they keep of memory, of the controller and of the registers, and the
flags and costs by the opcode table; with them the obligations on the frames. -/

namespace Sys2Proof.Machine

/-! ## Contracts of every instruction -/

theorem Contract.exec {i : Instr} {s t : State} {P R : State → Prop} (hc : Contract i.form s P R)
    (hwf : i.WellFormed = true) (hs : P s) (h : exec i s = .next t) : R t :=
  hc.execForm ((wellFormed_iff i).mp hwf) (form_namesLegalPair i) hs (by rw [← exec_eq_execForm, h])

/-- R356: every instruction has the meaning of one in canonical spelling, PREFIX CB that of its CB instruction. -/
theorem exists_canonical (i : Instr) : ∃ j : Instr, j.WellFormed = true ∧ (∀ s, exec i s = exec j s) ∧
    (j = i ∨ ∃ op2, i.form = .prefixCb op2 ∧ j = decodeCb op2) := by
  cases hwf : i.WellFormed with
  | true => exact ⟨i, hwf, fun _ => rfl, .inl rfl⟩
  | false =>
    obtain ⟨op2, hform⟩ : ∃ op2, i.form = .prefixCb op2 := by
      by_contra hne
      rw [(wellFormed_iff i).mpr fun op2 h => hne ⟨op2, h⟩] at hwf
      cases hwf
    exact ⟨decodeCb op2, (decodeCb_encodesTo op2).wellFormed, fun s => (exec_of_form hform s).trans (exec_prefixCb op2 s),
      .inr ⟨op2, hform, rfl⟩⟩

/-- A predicate that looks at none of the CPU registers, the run state and the cost is a contract where byte writes and the
switches of the controller keep it. -/
theorem Contract.of_frame {f : Form} {s : State} {P : State → Prop} (hregs : ∀ t r, P t → P { t with regs := r })
    (hcost : ∀ t m, P t → P { t with cost := m }) (hraise : ∀ t k, P t → P (t.raise k))
    (hwrite : ∀ t u a v, storesAt f s a → P t → (t.writeByte a v).endsIn u → P u)
    (hswitches : ∀ t ime halted ei di, actsOnController f → P t →
      P { t with ints := { t.ints with ime := ime, halted := halted, eiDelay := ei, diDelay := di } }) :
    Contract f s P P where
  reg t r v _ ht := by rw [t.setReg_eq]; exact hregs t _ ht
  sp t v _ ht := hregs t _ ht
  pc t v _ ht := hregs t _ ht
  write t a v ha ht := Act.post_of_endsIn fun u hu => hwrite t u a v ha ht hu
  switches := hswitches
  raise := hraise
  completes u m hu _ := by
    cases hu with
    | plain _ hu => exact hcost u m hu
    | flags _ _ hu => exact hcost _ m (hregs _ _ hu)

/-! ## Frames -/

/-- t is s but for the CPU registers, the controller's switches, the run state and the cost. -/
def State.keepsMemory (s t : State) : Prop :=
  t = { s with regs := t.regs, ints := { t.ints with ie := s.ints.ie, iflag := s.ints.iflag }, run := t.run, cost := t.cost }

theorem contract_keepsMemory {f : Form} {s : State} (h : f.writeAddr s = none) :
    Contract f s s.keepsMemory s.keepsMemory := by
  have noStore (a : Word) : ¬storesAt f s a := by
    rintro ⟨first, n, k, hfirst, -⟩
    rw [h] at hfirst
    cases hfirst
  refine .of_frame (fun t r ht => ?regs) (fun t m ht => ?cost) (fun t k ht => congrArg (State.raise · k) ht)
    (fun _ _ a _ ha => absurd ha (noStore a)) (fun t ime halted ei di _ ht => ?switches)
  case regs => exact (congrArg (fun u : State => { u with regs := r }) ht :)
  case cost => exact (congrArg (fun u : State => { u with cost := m }) ht :)
  case switches =>
    exact (congrArg (fun u : State =>
      { u with ints := { u.ints with ime := ime, halted := halted, eiDelay := ei, diDelay := di } }) ht :)

theorem State.keepsMemory_busRead {s t : State} (h : s.keepsMemory t) (b : Word) : t.busRead b = s.busRead b := by
  rw [h]
  refine State.busRead_congr (fun _ => rfl) (fun _ _ => rfl) (fun r _ => ?_) fun _ => ⟨rfl, rfl⟩
  cases r <;> rfl

/-- The switches of the interrupt controller in t are those in s: of it only IE and IF may differ. -/
def State.keepsSwitches (s t : State) : Prop := t.ints = { s.ints with ie := t.ints.ie, iflag := t.ints.iflag }

theorem contract_keepsSwitches {f : Form} {s : State} (h : ¬actsOnController f) :
    Contract f s s.keepsSwitches s.keepsSwitches := by
  refine .of_frame (fun _ _ ht => ht) (fun _ _ ht => ht) (fun _ _ ht => ht) (fun t u a v _ ht hu => ?_)
    (fun _ _ _ _ _ hf _ => absurd hf h)
  obtain ⟨-, hints, -⟩ := State.writeByte_frame hu
  unfold State.keepsSwitches at ht ⊢
  rw [hints, ht]

/-- R92, R110: what a storing instruction may change of the reads and of the host's input. -/
structure State.targetOnly (s : State) (a : Word) (n : Nat) (t : State) : Prop where
  reads : ∀ b, (∀ k < n, affects (a + BitVec.ofNat 16 k) b = false) → t.busRead b = s.busRead b
  input : t.input = s.input
  queue : t.inputQueue = s.inputQueue
  ieHigh : t.ieHigh = s.ieHigh

theorem contract_targetOnly {f : Form} {s : State} {a : Word} {n : Nat} (h : f.writeAddr s = some (a, n))
    (hf : ¬actsOnController f) : Contract f s (s.targetOnly a n) (s.targetOnly a n) := by
  refine .of_frame (fun _ _ ht => ⟨ht.reads, ht.input, ht.queue, ht.ieHigh⟩)
    (fun _ _ ht => ⟨ht.reads, ht.input, ht.queue, ht.ieHigh⟩)
    (fun _ _ ht => ⟨ht.reads, ht.input, ht.queue, ht.ieHigh⟩)
    (fun t u c v hc ht hu => ?write) (fun _ _ _ _ _ hacts _ => absurd hacts hf)
  case write =>
    obtain ⟨first, m, k, hfirst, hk, rfl⟩ := hc
    obtain ⟨rfl, rfl⟩ : a = first ∧ n = m := Prod.mk.inj (Option.some.inj (h.symm.trans hfirst))
    obtain ⟨-, -, hinput, hqueue, hie⟩ := State.writeByte_frame hu
    exact ⟨fun b hb => (State.busRead_of_not_affects hu (hb k hk)).trans (ht.reads b hb), hinput.trans ht.input,
      hqueue.trans ht.queue, hie.trans ht.ieHigh⟩

theorem not_actsOnController_of_writeAddr {f : Form} {s : State} {x : Word × Nat} (h : f.writeAddr s = some x) :
    ¬actsOnController f := by
  rintro (rfl | rfl | rfl | rfl) <;> cases h

/-- R36: what a form changes of the CPU registers. -/
structure State.formRegsOnly (s : State) (f : Form) (t : State) : Prop where
  regs : ∀ r, r ∉ f.regsWritten → t.reg r = s.reg r
  sp : f.writesSp = false → t.regs.sp = s.regs.sp
  pc : f.writesPc = false → t.regs.pc = s.regs.pc

theorem State.formRegsOnly.congr {s t u : State} {f : Form} (h : s.formRegsOnly f t) (hu : u.regs = t.regs) :
    s.formRegsOnly f u :=
  ⟨fun r hr => (State.reg_congr hu r).trans (h.regs r hr), fun hsp => hu ▸ h.sp hsp, fun hpc => hu ▸ h.pc hpc⟩

theorem contract_formRegsOnly (f : Form) (s : State) : Contract f s (s.formRegsOnly f) (s.formRegsOnly f) where
  reg t r v hr ht := by
    refine ⟨fun r' hr' => ?_, fun h => (t.setReg_regs_sp r v).trans (ht.sp h),
      fun h => (t.setReg_regs_pc r v).trans (ht.pc h)⟩
    rw [t.reg_setReg, if_neg fun h : r' = r => hr' (h ▸ hr)]
    exact ht.regs r' hr'
  sp t v hsp ht := ⟨fun r hr => (t.reg_setSp v r).trans (ht.regs r hr), fun h => absurd (h.symm.trans hsp) nofun, ht.pc⟩
  pc t v hpc ht := ⟨fun r hr => (t.reg_setPc v r).trans (ht.regs r hr), ht.sp, fun h => absurd (h.symm.trans hpc) nofun⟩
  write t a v _ ht := Act.post_of_endsIn fun u hu => ht.congr (State.writeByte_frame hu).1
  switches t _ _ _ _ _ ht := ht.congr rfl
  raise t k ht := ht.congr rfl
  completes u m hu _ := by
    cases hu with
    | plain _ hu => exact hu.congr rfl
    | flags _ _ hu => exact ⟨fun r hr => (State.reg_setFlags ..).trans (hu.regs r hr), hu.sp, hu.pc⟩

/-! ## Flags and costs -/

/-- R33: the flags of t are those that a column allows after s, and F whole where it is all `-`. -/
def followsColumn (col : FlagColumn) (s t : State) : Prop :=
  columnAllows col s t.flagZ t.flagN t.flagH t.flagC ∧
    (col = ⟨.kept, .kept, .kept, .kept⟩ → t.regs.f = s.regs.f) ∧
      (col ≠ ⟨.kept, .kept, .kept, .kept⟩ → t.regs.f &&& 0x0F = 0)

theorem followsColumn_of_completed {f : Form} {s t : State} (h : Completed f s (fun u => u.regs.f = s.regs.f) t) :
    followsColumn f.flagColumn s t := by
  cases h with
  | plain hf ht =>
    have hcol : f.flagColumn = ⟨.kept, .kept, .kept, .kept⟩ := by simpa [writesFlags] using hf
    rw [hcol]
    refine ⟨?_, fun _ => ht, fun hne => absurd rfl hne⟩
    have flag (k : Nat) := congrArg (·.getLsbD k) ht
    exact ⟨flag 7, flag 6, flag 5, flag 4⟩
  | @flags u z n h c hf hallows _ =>
    obtain ⟨hz, hn, hh, hc, hlow⟩ := u.setFlags_flagsAre z n h c
    refine ⟨by rwa [hz, hn, hh, hc], fun hcol => absurd hcol (of_decide_eq_true hf), fun _ => hlow⟩

theorem contract_flags (f : Form) (s : State) : Contract f s (fun t => t.regs.f = s.regs.f)
    (fun t => t.run = .running → followsColumn f.flagColumn s t ∧ t.cost ∈ f.cycles) where
  reg t r v _ ht := (t.setReg_regs_f r v).trans ht
  sp _ _ _ ht := ht
  pc _ _ _ ht := ht
  write t a v _ ht := by
    have hrun := t.writeByte_run a v
    cases hw : t.writeByte a v with
    | ok u => exact (congrArg Regs.f (State.writeByte_frame (.inl hw)).1).trans ht
    | error u =>
      rw [hw] at hrun
      obtain ⟨b, d, hfatal⟩ := hrun
      exact fun hr => nomatch hfatal.symm.trans hr
  switches _ _ _ _ _ _ ht := ht
  raise _ _ _ hr := nomatch hr
  completes u m hu hm _ :=
    have hcolumn : followsColumn f.flagColumn s u := followsColumn_of_completed hu
    ⟨hcolumn, hm⟩

theorem cycles_bounds (f : Form) : ∀ m ∈ f.cycles, 1 ≤ m ∧ m ≤ 6 := by
  have checked : f.cycles.all (fun m => decide (1 ≤ m ∧ m ≤ 6)) = true := by cases f <;> rfl
  exact fun m hm => of_decide_eq_true (List.all_eq_true.mp checked m hm)

/-- R356: PREFIX CB's column has the costs of the CB map. -/
theorem cycles_decodeCb : ∀ op2, ∀ m ∈ (decodeCb op2).form.cycles, m ∈ [2, 3, 4] := by
  decide +kernel

theorem decodeCb_not_actsOnController (op2 : Byte) : ¬actsOnController (decodeCb op2).form := by
  have checked : ∀ op2, (decodeCb op2).form ≠ .di ∧ (decodeCb op2).form ≠ .ei ∧ (decodeCb op2).form ≠ .halt ∧
      (decodeCb op2).form ≠ .reti := by decide +kernel
  obtain ⟨hdi, hei, hhalt, hreti⟩ := checked op2
  exact fun h => h.elim hdi fun h => h.elim hei fun h => h.elim hhalt hreti

/-! ## The obligations -/

/-- Settles O44: a form that stores nowhere is a contract for `keepsMemory`, and no read looks beyond what that keeps. -/
theorem instructionsThatStoreNothingLeaveMemory : Obligations.InstructionsThatStoreNothingLeaveMemory := by
  intro i s t hwf hnone h
  have hkeeps : s.keepsMemory t := (contract_keepsMemory hnone).exec hwf rfl h
  exact ⟨State.keepsMemory_busRead hkeeps, hkeeps, congrArg (·.ints.ie) hkeeps, congrArg (·.ints.iflag) hkeeps⟩

/-- Settles O45: a storing form is a contract for the reads that its target does not affect and for the switches. -/
theorem storingInstructionsChangeOnlyTheirTarget : Obligations.StoringInstructionsChangeOnlyTheirTarget := by
  intro i s t a n hwf hstore h
  have hacts := not_actsOnController_of_writeAddr hstore
  obtain ⟨reads, input, queue, ieHigh⟩ :=
    (contract_targetOnly hstore hacts).exec hwf ⟨fun _ _ => rfl, rfl, rfl, rfl⟩ h
  exact ⟨reads, (contract_keepsSwitches hacts).exec hwf rfl h, input, queue, ieHigh⟩

/-- Settles O46: every form is a contract for its own registers. -/
theorem instructionsChangeOnlyTheirRegisters : Obligations.InstructionsChangeOnlyTheirRegisters := by
  intro i s t hwf h
  obtain ⟨regs, sp, pc⟩ := (contract_formRegsOnly i.form s).exec hwf ⟨fun _ _ => rfl, fun _ => rfl, fun _ => rfl⟩ h
  exact ⟨regs, sp, pc⟩

/-- Settles O47: a form's flags are its column's (`contract_flags`); PREFIX CB costs what its CB instruction does. -/
theorem flagsAndCostsFollowTheTable : Obligations.FlagsAndCostsFollowTheTable := by
  have completed (i : Instr) (s t : State) (hwf : i.WellFormed = true) (h : exec i s = .next t) (hrun : t.run = .running) :
      followsColumn i.form.flagColumn s t ∧ t.cost ∈ i.form.cycles :=
    (contract_flags i.form s).exec hwf rfl h hrun
  refine ⟨fun i s t hwf h hrun => ?flags, fun i s t h hrun => ?cost⟩
  case flags =>
    obtain ⟨⟨⟨hz, hn, hh, hc⟩, hkept, hlow⟩, -⟩ := completed i s t hwf h hrun
    exact ⟨hz, hn, hh, hc, hkept, hlow⟩
  case cost =>
    obtain ⟨j, hwf, hexec, hj⟩ := exists_canonical i
    have hcost := (completed j s t hwf ((hexec s).symm.trans h) hrun).2
    refine ⟨?_, cycles_bounds j.form _ hcost⟩
    obtain rfl | ⟨op2, hform, rfl⟩ := hj
    · exact hcost
    · rw [hform]
      exact cycles_decodeCb op2 _ hcost

/-- Settles O48: a form that does not act on the controller is a contract for the switches; no CB instruction does. -/
theorem onlySystemInstructionsActOnTheController : Obligations.OnlySystemInstructionsActOnTheController := by
  intro i s t h hdi hei hhalt hreti
  obtain ⟨j, hwf, hexec, hj⟩ := exists_canonical i
  have hacts : ¬actsOnController j.form := by
    obtain rfl | ⟨op2, -, rfl⟩ := hj
    · exact fun h => h.elim hdi fun h => h.elim hei fun h => h.elim hhalt hreti
    · exact decodeCb_not_actsOnController op2
  have hkeeps : s.keepsSwitches t := (contract_keepsSwitches hacts).exec hwf rfl ((hexec s).symm.trans h)
  rw [hkeeps]
  exact ⟨rfl, rfl, rfl, rfl⟩

end Sys2Proof.Machine
end

section
/-! SUPPORT. The step in its stages: the interrupt try, the dispatch, the idle cycle and the fetch; with them the obligations
on the step, on END and on the system instructions. -/

namespace Sys2Proof.Machine

/-! ## The interrupt try (R385, R386) -/

/-- R386: the lowest set bit. -/
theorem lowestSet_eq_some_iff : ∀ (p : BitVec 5) (i : Fin 5),
    lowestSet p = some i ↔ p.getLsbD i.val = true ∧ ∀ j < i, ¬p.getLsbD j.val = true := by
  decide

theorem Interrupts.selected_of_no_request {c : Interrupts} (h : c.ie &&& c.iflag = 0) : c.selected = none := by
  rw [Interrupts.selected, h]
  exact ite_self _

/-! ## The step by its stages (R392, R399) -/

/-- A running machine's step is its CPU step and then the devices' advance. -/
theorem step_of_running {s t : State} (hrun : s.run = .running) (h : cpuStep s.sampleInput = .next t) :
    step s = .next t.afterCpu := by
  rw [step, hrun]
  dsimp only
  rw [h]

theorem cpuStep_of_selected {s : State} {i : Fin 5} (h : s.tickDelays.ints.selected = some i) :
    cpuStep s = perform Config.irqCost ((s.tickDelays.acknowledge i).dispatch i) := by
  simp only [cpuStep, h]

theorem cpuStep_of_none {s : State} (h : s.tickDelays.ints.selected = none) : cpuStep s = cpuExecute s.tickDelays := by
  simp only [cpuStep, h]

theorem cpuExecute_of_halted {s : State} (h : s.ints.halted = true) : cpuExecute s = finish Config.haltCost s := if_pos h

theorem cpuExecute_of_fetched {s u : State} {i : Instr} (hh : s.ints.halted = false) (h : s.fetch = .ok (i, u)) :
    cpuExecute s = exec i u.sampleInput := by
  rw [cpuExecute, if_neg (Bool.eq_false_iff.mp hh), h]

theorem cpuExecute_of_declined {s u : State} (hh : s.ints.halted = false) (h : s.fetch = .error u) :
    cpuExecute s = .next u := by
  rw [cpuExecute, if_neg (Bool.eq_false_iff.mp hh), h]

theorem State.afterCpu_of_running {s : State} (h : s.run = .running) : s.afterCpu = s.advanceDevices s.cost := by
  rw [State.afterCpu, h]

theorem State.afterCpu_of_fatal {s : State} {k : Fatal} (h : s.run = .fatal k) : s.afterCpu = s := by
  rw [State.afterCpu, h]

theorem State.afterCpu_of_declined {s : State} (h : s.declined) : s.afterCpu = s := by
  obtain ⟨a, d, h⟩ := h
  exact State.afterCpu_of_fatal h

/-- R392: the CPU step always answers a next state. -/
theorem cpuStep_answers (s : State) : ∃ t, cpuStep s = .next t := by
  cases hsel : s.tickDelays.ints.selected with
  | some i =>
    rw [cpuStep_of_selected hsel]
    exact perform_answers _ _
  | none =>
    rw [cpuStep_of_none hsel]
    cases hh : s.tickDelays.ints.halted with
    | true => exact ⟨_, cpuExecute_of_halted hh⟩
    | false =>
      cases hf : s.tickDelays.fetch with
      | ok p =>
        obtain ⟨t, ht⟩ := exec_answers p.1 p.2.sampleInput
        exact ⟨t, (cpuExecute_of_fetched hh hf).trans ht⟩
      | error u => exact ⟨u, cpuExecute_of_declined hh hf⟩

/-! ## The idle step (R395, R475) -/

/-- R399: the devices change their own registers and IF alone. -/
theorem State.advanceDevices_only (s : State) (m : Nat) :
    s.advanceDevices m = { s with timer := (s.advanceDevices m).timer, lcd := (s.advanceDevices m).lcd
                                  ints := { s.ints with iflag := (s.advanceDevices m).ints.iflag } } := by
  have htimer := s.timerStep_only (Config.tPerM * m)
  have hdisplay := (s.timerStep (Config.tPerM * m)).displayStep_only (Config.tPerM * m)
  unfold State.advanceDevices
  unfold timerOnly at htimer
  unfold displayOnly at hdisplay
  rw [hdisplay, htimer]

/-- R395: a halted machine that selects no source idles. -/
theorem step_of_halted {s : State} (hrun : s.run = .running) (hh : s.sampleInput.tickDelays.ints.halted = true)
    (hsel : s.sampleInput.tickDelays.ints.selected = none) :
    step s = .next (State.advanceDevices { s.sampleInput.tickDelays with cost := 1 } 1) := by
  have hcpu : cpuStep s.sampleInput = .next { s.sampleInput.tickDelays with cost := 1 } :=
    (cpuStep_of_none hsel).trans (cpuExecute_of_halted hh)
  rw [step_of_running hrun hcpu, State.afterCpu_of_running]
  exact s.sampleInput_run.trans hrun

/-- R475: t is at END, running, with the program's state of s. -/
structure State.endedAs (s t : State) : Prop where
  atEnd : t.atEnd
  running : t.run = .running
  regs : t.regs = s.regs
  mem : t.mem = s.mem
  cart : t.cart = s.cart
  dmaReg : t.dmaReg = s.dmaReg
  joypSel : t.joypSel = s.joypSel

theorem State.endedAs.trans {s t u : State} (ht : s.endedAs t) (hu : t.endedAs u) : s.endedAs u where
  atEnd := hu.atEnd
  running := hu.running
  regs := hu.regs.trans ht.regs
  mem := hu.mem.trans ht.mem
  cart := hu.cart.trans ht.cart
  dmaReg := hu.dmaReg.trans ht.dmaReg
  joypSel := hu.joypSel.trans ht.joypSel

theorem State.tickDelays_atEnd {s : State} (h : s.atEnd) : s.tickDelays.atEnd := by
  rw [State.atEnd, s.tickDelays_ints]
  exact h

/-- R475: a step from END idles and stays there. -/
theorem step_of_atEnd {s : State} (hrun : s.run = .running) (hend : s.atEnd) : ∃ t, step s = .next t ∧ s.endedAs t := by
  have hend1 : s.sampleInput.tickDelays.atEnd :=
    State.tickDelays_atEnd (by rw [State.atEnd, s.sampleInput_ints]; exact hend)
  obtain ⟨hh, hie⟩ := hend1
  have hsel := Interrupts.selected_of_no_request (c := s.sampleInput.tickDelays.ints) (by rw [hie]; exact BitVec.zero_and)
  refine ⟨_, step_of_halted hrun hh hsel, ?_⟩
  rw [State.advanceDevices_only]
  constructor
  case atEnd => exact ⟨hh, hie⟩
  all_goals simp [hrun]

theorem core_run_succ {s t : State} {n : Nat} (h : step s = .next t) :
    Host.Core.run Sys2Proof.core (n + 1) s = Host.Core.run Sys2Proof.core n t := by
  have hcore : Sys2Proof.core.step s = .next t := h
  simp only [Host.Core.run, hcore]

/-- R475: any number of steps from END is a run that ends at END. -/
theorem core_run_of_atEnd (n : Nat) : ∀ s : State, s.run = .running → s.atEnd →
    ∃ t : State, Host.Core.run Sys2Proof.core n s = .next t ∧ s.endedAs t := by
  induction n with
  | zero => exact fun s hrun hend => ⟨s, rfl, hend, hrun, rfl, rfl, rfl, rfl, rfl⟩
  | succ n ih =>
    intro s hrun hend
    obtain ⟨t, hstep, ht⟩ := step_of_atEnd hrun hend
    obtain ⟨u, hu, hended⟩ := ih t ht.running ht.atEnd
    exact ⟨u, (core_run_succ hstep).trans hu, ht.trans hended⟩

/-- Settles O35, by induction on the number of steps: each idles at END (`step_of_atEnd`). -/
theorem endIsForEver : Obligations.EndIsForEver := by
  intro n s hrun hend
  obtain ⟨t, ht, hatEnd, running, regs, mem, cart, dmaReg, joypSel⟩ := core_run_of_atEnd n s hrun hend
  exact ⟨t, ht, hatEnd, running, regs, mem, cart, dmaReg, joypSel⟩

/-- Settles O26: each is its form's encoding and its form's meaning. -/
theorem systemInstructions : Obligations.SystemInstructions := fun _ s =>
  ⟨fun h => ⟨encode_of_form h, exec_of_form h s⟩, fun h => ⟨encode_of_form h, exec_of_form h s⟩,
    fun h => ⟨encode_of_form h, exec_of_form h s⟩, fun h => ⟨encode_of_form h, exec_of_form h s⟩⟩

/-- Settles O27: STOP is its form's encoding and its form's meaning. -/
theorem stopIsATwoByteNoOperation : Obligations.StopIsATwoByteNoOperation :=
  fun _ s _ h => ⟨encode_of_form h, exec_of_form h s⟩

/-- Settles O31: the try is the lowest set bit of IE and IF (`lowestSet_eq_some_iff`). -/
theorem lowestEnabledRequestIsSelected : Obligations.LowestEnabledRequestIsSelected := by
  intro c i
  rw [Interrupts.selected, Option.ite_none_right_eq_some, lowestSet_eq_some_iff, Bool.or_eq_true]
  simp only [BitVec.getLsbD_and, Bool.and_eq_true, and_assoc]

/-- Settles O33, by the idle step; the devices change neither the registers nor memory. -/
theorem haltedStepIdles : Obligations.HaltedStepIdles := by
  intro s hrun s1 hh hnone
  refine ⟨_, step_of_halted hrun hh (Interrupts.selected_of_no_request hnone), rfl, ?_, ?_⟩ <;>
    rw [State.advanceDevices_only] <;> simp

/-- Settles O34: a CPU step always answers (`cpuStep_answers`), and the fatal state stops before it. -/
theorem stepsExactlyWhileRunning : Obligations.StepsExactlyWhileRunning := by
  refine ⟨fun s k hfatal => ?_, fun s hrun => ?_⟩
  · rw [step, hfatal]
  · obtain ⟨t, ht⟩ := cpuStep_answers s.sampleInput
    exact ⟨_, step_of_running hrun ht⟩

/-- Settles O30, by what the fetch gives: the decoded instruction, or the declined read. -/
theorem stepRunsTheDecodedInstruction : Obligations.StepRunsTheDecodedInstruction := by
  intro s bytes hrun s1 a hsel hh hbytes
  have hcpu : cpuStep s.sampleInput = cpuExecute s1 := cpuStep_of_none hsel
  refine ⟨fun i hd => ?runs, fun e hd hnone => ?declined⟩
  case runs =>
    obtain ⟨t, ht⟩ := exec_answers i (s1.setPc a).sampleInput
    have hexec := cpuExecute_of_fetched hh (State.fetch_ok hd hbytes)
    rw [step_of_running hrun (hcpu.trans (hexec.trans ht)), ht]
  case declined =>
    have hexec := cpuExecute_of_declined hh (State.fetch_declined hd hbytes hnone)
    rw [step_of_running hrun (hcpu.trans hexec), State.afterCpu_raise]
    rfl

/-! ## The dispatch of an interrupt (R387) -/

/-- R11, R101: a word write leaves the run state, or ends in the fatal state of a declined access. -/
theorem State.writeWord_run (s : State) (a v : Word) : (s.writeWord a v).Post (fun t => t.run = s.run) State.declined :=
  (s.writeByte_run a _).bind fun u hu => (u.writeByte_run _ _).imp fun _ ht => ht.trans hu

theorem Act.Post.of_ok {α : Type} {act : Act α} {Q : α → Prop} {E : State → Prop} {a : α} (h : act.Post Q E)
    (ha : act = .ok a) : Q a := by
  rw [ha] at h
  exact h

theorem Act.Post.of_error {α : Type} {act : Act α} {Q : α → Prop} {E : State → Prop} {t : State} (h : act.Post Q E)
    (ht : act = .error t) : E t := by
  rw [ht] at h
  exact h

/-- Settles O32: the dispatch is a push with IME cleared and then the jump to the vector; a word write keeps the run state,
and of the controller it changes IE and IF alone. -/
theorem stepDispatchesTheSelectedInterrupt : Obligations.StepDispatchesTheSelectedInterrupt := by
  intro s i hrun s1 a s2 hsel
  have hcpu : cpuStep s.sampleInput = perform Config.irqCost
      (s2.writeWord a s1.regs.pc >>= fun t => .ok (t.setPc (interruptVector i))) := cpuStep_of_selected hsel
  refine ⟨fun hacc => ?accepted, fun t ht => ?declined⟩
  case accepted =>
    obtain ⟨u, t, hu, ht, hword, hregs⟩ := State.writeWord_accepted hacc
    obtain ⟨-, hints, -⟩ := State.writeWord_frame (.inl hword)
    have hrunning : t.run = .running :=
      ((s2.writeWord_run a s1.regs.pc).of_ok hword).trans ((by simp [s2, s1] : s2.run = s.run).trans hrun)
    rw [hword] at hcpu
    exact ⟨u, t, hu, ht, step_of_running hrun hcpu, hregs, by rw [hints], by rw [hints], by rw [hints], by rw [hints],
      hrunning⟩
  case declined =>
    rw [step_of_running hrun (hcpu.trans (perform_bind_error ht _))]
    exact congrArg _ (State.afterCpu_of_declined ((s2.writeWord_run a s1.regs.pc).of_error ht))

end Sys2Proof.Machine
end

section
/-! SUPPORT. The invariant by its parts: memory, the timer's phases, the display's line and its rows. What an instruction,
the timer and the display each keep of them; with them the obligations on the invariant. -/

namespace Sys2Proof.Machine

/-! ## Memory (R40) -/

/-- R40: memory is canonical and lists only bytes that the block stores. -/
structure Memory.Stored (m : Memory) : Prop where
  canonical : m.wf = true
  keys : ∀ cell ∈ m, storedKey cell.1

theorem Memory.Stored.write {m : Memory} (h : m.Stored) {key : Nat} (hkey : storedKey key) (v : Byte) :
    (m.write key v).Stored where
  canonical := Memory.write_wf h.canonical key v
  keys := fun cell hcell => by
    obtain rfl | hm := Memory.mem_write hcell
    · exact hkey
    · exact h.keys cell hm

theorem storedKey_of_plainIo {a : Word} (h : region a = .io .plain) : storedKey a.toNat := by
  obtain ⟨⟨hlo, hhi⟩, hr⟩ := region_io.mp h
  exact .inr (.inr (.inr (.inl ⟨hlo, hhi, by rwa [BitVec.ofNat_toNat, BitVec.setWidth_eq]⟩)))

theorem storedKey_oam {i : Nat} (hi : i < 160) : storedKey (oamBase + i) := by
  unfold storedKey oamBase
  omega

/-- R113: no write makes bank 0 the selected one. -/
theorem Cart.canonical_write {c c' : Cart} {a : Word} {v : Byte} (h : c.canonical) (hw : c.write a v = some c') :
    c'.canonical := by
  cases c with
  | none | nonBanked =>
    cases hw
    exact h
  | banked image bank =>
    have hbank : selectedBank v ≠ 0 := fun h0 => by
      have hzero : 0 = if v.toNat % 32 = 0 then 1 else v.toNat % 32 :=
        (congrArg BitVec.toNat h0).symm.trans (toNat_selectedBank v)
      split at hzero <;> omega
    rw [Cart.write] at hw
    split at hw <;> cases hw
    · exact ⟨h.1, hbank⟩
    · exact h
  | other declined writes =>
    rw [Cart.write, Option.ite_none_right_eq_some] at hw
    obtain ⟨-, hw⟩ := hw
    cases hw
    trivial

/-! ## What an instruction keeps -/

theorem State.Inv.stored {s : State} (h : s.Inv) : s.mem.Stored := ⟨h.memCanonical, h.memKeys⟩

theorem State.Inv.setMem {s : State} (h : s.Inv) {m : Memory} (hm : m.Stored) : State.Inv { s with mem := m } :=
  { h with memCanonical := hm.canonical, memKeys := hm.keys }

theorem State.Inv.setInts {s : State} (h : s.Inv) (c : Interrupts) : State.Inv { s with ints := c } := { h with }

theorem State.Inv.raise {s : State} (h : s.Inv) (k : Fatal) : (s.raise k).Inv := { h with costBound := Nat.zero_le 6 }

theorem Timer.timaAcc_writeTac (t : Timer) (v : Byte) : (t.writeTac v).timaAcc < (t.writeTac v).period :=
  Nat.mod_lt _ (t.writeTac v).period_pos

/-- R410, R416: a write to LCDC turns the display off as the power-off reset leaves it, or leaves it on. -/
theorem State.Inv.writeLcdc {s : State} (h : s.Inv) (v : Byte) : State.Inv { s with lcd := s.lcd.writeLcdc v } := by
  unfold Display.writeLcdc
  cases hv : v.getLsbD 7 with
  | true => exact { h with powerOff := fun hoff => absurd (hv.symm.trans hoff) nofun }
  | false =>
    show State.Inv { s with lcd := Display.powerOff { s.lcd with lcdc := v } }
    exact { h with
      lineRange := Nat.zero_le _
      lineMode := ⟨nofun, fun hle => absurd hle (show ¬144 ≤ (0 : Byte).toNat by decide)⟩
      modePhase := show 0 < Mode.hblank.duration by decide
      powerOff := fun _ => ⟨rfl, rfl, rfl, rfl⟩
      frameRows := List.length_replicate
      frameColumns := fun row hrow => List.eq_of_mem_replicate hrow ▸ List.length_replicate }

theorem State.Inv.ioWrite {s t : State} {a : Word} {r : IoReg} {v : Byte} (h : s.Inv) (ha : region a = .io r)
    (hw : (s.ioWrite a r v).endsIn t) : t.Inv := by
  cases r with
  | dma =>
    exact writeDma_induction (P := State.Inv) (fun u i v hi hu => hu.setMem (hu.stored.write (storedKey_oam hi) v))
      (fun u k hu => hu.raise k) (s := s) (v := v) { h with } hw
  | plain => exact endsIn_ok hw ▸ h.setMem (h.stored.write (storedKey_of_plainIo ha) v)
  | lcdc => exact endsIn_ok hw ▸ h.writeLcdc v
  | div => exact endsIn_ok hw ▸ { h with divPhase := show 0 < Config.divPeriod by decide }
  | tac => exact endsIn_ok hw ▸ { h with timaPhase := s.timer.timaAcc_writeTac v }
  | _ => exact endsIn_ok hw ▸ { h with }

theorem State.Inv.writeByte {s t : State} {a : Word} {v : Byte} (h : s.Inv) (hw : (s.writeByte a v).endsIn t) : t.Inv :=
  State.writeByte_induction (fun _ hc => { h with cartCanonical := Cart.canonical_write h.cartCanonical hc }) (h.raise _)
    (fun _ hkey => h.setMem (h.stored.write (region_store_key hkey).1 v)) h (h.setInts _)
    (fun _ ha _ hu => h.ioWrite ha hu) hw

theorem State.Inv.kept : Kept State.Inv where
  regs := fun _ _ h hf =>
    { h with flagsLow := hf.elim (fun hsame => (congrArg (· &&& 0x0F) hsame).trans h.flagsLow) id }
  cost := fun _ _ hm h => { h with costBound := hm }
  raise := fun _ k h => h.raise k
  byte := fun _ _ _ _ h hw => h.writeByte hw
  switches := fun _ _ _ _ _ h => h.setInts _

theorem State.Inv.sampleInput {s : State} (h : s.Inv) : s.sampleInput.Inv := by
  rw [s.sampleInput_only]
  exact { h with }

theorem State.Inv.cpuExecute {s t : State} (h : s.Inv) (hx : cpuExecute s = .next t) : t.Inv := by
  unfold Machine.cpuExecute at hx
  split at hx
  · exact State.Inv.kept.finish (by decide) h hx
  · obtain ⟨hok, herror⟩ := State.Inv.kept.fetch h
    split at hx
    case h_1 i u hf => exact State.Inv.kept.exec i (hok i u hf).sampleInput hx
    case h_2 u hf =>
      cases hx
      exact herror _ hf

/-- R392: the CPU step keeps the invariant. -/
theorem State.Inv.cpuStep {s t : State} (h : s.Inv) (hx : cpuStep s = .next t) : t.Inv := by
  have hticked : s.tickDelays.Inv := h.setInts _
  cases hsel : s.tickDelays.ints.selected with
  | some i =>
    rw [cpuStep_of_selected hsel] at hx
    exact State.Inv.kept.perform (by decide) (State.Inv.kept.dispatch (hticked.setInts _)) hx
  | none =>
    rw [cpuStep_of_none hsel] at hx
    exact hticked.cpuExecute hx

/-! ## The timer (R400, R401) -/

/-- R38, R47: the phases of the timer are below their periods. -/
structure Timer.InPhase (t : Timer) : Prop where
  div : t.divAcc < Config.divPeriod
  tima : t.timaAcc < t.period

theorem State.timaTick_phase (s : State) :
    s.timaTick.timer = { s.timer with tima := s.timaTick.timer.tima } := by
  unfold State.timaTick
  split <;> rfl

theorem State.timaTick_inPhase {s : State} (h : s.timer.InPhase) : s.timaTick.timer.InPhase := by
  rw [s.timaTick_phase]
  exact ⟨h.div, h.tima⟩

theorem State.timerStep_inPhase {s : State} (h : s.timer.InPhase) (t : Nat) : (s.timerStep t).timer.InPhase := by
  have hdiv : (s.advanceDivider t).timer.InPhase := by
    rw [s.advanceDivider_eq]
    exact ⟨Nat.mod_lt _ (by decide), h.tima⟩
  unfold State.timerStep State.advanceCounter
  split
  · exact turns_keeps (P := fun u => u.timer.InPhase) (fun u hu => State.timaTick_inPhase hu) _
      ⟨hdiv.div, Nat.mod_lt _ (Timer.period_pos _)⟩
  · exact hdiv

theorem State.Inv.timerStep {s : State} (h : s.Inv) (t : Nat) : (s.timerStep t).Inv := by
  obtain ⟨hdiv, htima⟩ := State.timerStep_inPhase ⟨h.divPhase, h.timaPhase⟩ t
  rw [s.timerStep_only t]
  exact { h with divPhase := hdiv, timaPhase := htima }

/-! ## The display (R411, R412, R426) -/

/-- R39, R411: a line of the frame, in mode 1 exactly on the lines that are not drawn. -/
structure Display.OnLine (d : Display) : Prop where
  range : d.ly.toNat ≤ 153
  vblank : d.mode = .vblank ↔ 144 ≤ d.ly.toNat

/-- R426: 144 rows of 160. -/
structure Display.Framed (d : Display) : Prop where
  rows : d.fb.length = 144
  columns : ∀ row ∈ d.fb, row.length = 160

theorem Display.OnLine.of_drawn {d : Display} (hmode : d.mode ≠ .vblank) (hly : d.ly.toNat < 144) : d.OnLine where
  range := by omega
  vblank := ⟨fun h => absurd h hmode, fun h => absurd h (by omega)⟩

theorem Display.OnLine.of_vblank {d : Display} (hmode : d.mode = .vblank) (hly : 144 ≤ d.ly.toNat ∧ d.ly.toNat ≤ 153) :
    d.OnLine where
  range := hly.2
  vblank := ⟨fun _ => hly.1, fun _ => hmode⟩

theorem State.endHblank_onLine {s : State} (h : s.lcd.OnLine) (hmode : s.lcd.mode = .hblank) : s.endHblank.lcd.OnLine := by
  have hly : s.lcd.ly.toNat < 144 := by
    rw [← Nat.not_le, ← h.vblank, hmode]
    nofun
  by_cases h144 : s.lcd.ly + 1 = 144
  · obtain ⟨mode, ly, -⟩ := State.endHblank_leaves_144 h144
    exact .of_vblank mode (by rw [ly]; decide)
  · obtain ⟨mode, ly, -⟩ := State.endHblank_leaves h144
    refine .of_drawn (by rw [mode]; nofun) ?_
    rw [ly]
    bv_omega

theorem State.endVblankLine_onLine {s : State} (h : s.lcd.OnLine) (hmode : s.lcd.mode = .vblank) :
    s.endVblankLine.lcd.OnLine := by
  have hly := h.vblank.mp hmode
  have hrange := h.range
  by_cases h154 : s.lcd.ly + 1 = 154
  · obtain ⟨mode, ly, -⟩ := State.endVblankLine_leaves_154 h154
    exact .of_drawn (by rw [mode]; nofun) (by rw [ly]; decide)
  · obtain ⟨mode', ly, -⟩ := State.endVblankLine_leaves h154
    refine .of_vblank (mode'.trans hmode) ?_
    rw [ly]
    bv_omega

theorem State.endMode_onLine {s : State} (h : s.lcd.OnLine) : s.endMode.lcd.OnLine := by
  have drawn (hmode : s.lcd.mode ≠ .vblank) : s.lcd.ly.toNat < 144 := Nat.not_le.mp fun hle => hmode (h.vblank.mpr hle)
  cases hmode : s.lcd.mode with
  | spriteScan =>
    rw [State.endMode_of_spriteScan hmode]
    exact .of_drawn nofun (drawn (by rw [hmode]; nofun))
  | pixelTransfer =>
    rw [State.endMode_of_pixelTransfer hmode]
    obtain ⟨mode, ly, -⟩ := s.endPixelTransfer_leaves
    exact .of_drawn (by rw [mode]; nofun) (ly ▸ drawn (by rw [hmode]; nofun))
  | hblank =>
    rw [State.endMode_of_hblank hmode]
    exact State.endHblank_onLine h hmode
  | vblank =>
    rw [State.endMode_of_vblank hmode]
    exact State.endVblankLine_onLine h hmode

theorem State.render_framed {s : State} (h : s.lcd.Framed) (ly : Nat) : (s.render ly).lcd.Framed where
  rows := List.length_set.trans h.rows
  columns := fun row hrow => by
    obtain hrow | rfl := List.mem_or_eq_of_mem_set hrow
    · exact h.columns row hrow
    · exact List.length_map _ |>.trans List.length_range

/-- R418: only the end of mode 3 draws. -/
theorem State.endMode_fb (s : State) :
    s.endMode.lcd.fb = if s.lcd.mode = .pixelTransfer then (s.render s.lcd.ly.toNat).lcd.fb else s.lcd.fb := by
  unfold State.endMode
  cases s.lcd.mode with
  | spriteScan => rfl
  | pixelTransfer => simp [State.endPixelTransfer]
  | hblank =>
    simp only [State.endHblank]
    split <;> simp
  | vblank =>
    simp only [State.endVblankLine]
    split <;> simp

theorem State.endMode_framed {s : State} (h : s.lcd.Framed) : s.endMode.lcd.Framed := by
  have hfb := s.endMode_fb
  split at hfb
  · obtain ⟨rows, columns⟩ := State.render_framed h s.lcd.ly.toNat
    exact ⟨hfb ▸ rows, hfb ▸ columns⟩
  · exact ⟨hfb ▸ h.rows, hfb ▸ h.columns⟩

theorem State.displayRun_keeps_frame {s : State} (hline : s.lcd.OnLine) (hframe : s.lcd.Framed) :
    s.displayRun.lcd.OnLine ∧ s.displayRun.lcd.Framed := by
  refine displayLoop_keeps (P := fun u => u.lcd.OnLine ∧ u.lcd.Framed) (fun u v hu hv => ?_) _ ⟨hline, hframe⟩
  obtain ⟨hline, hframe⟩ := hu
  rw [u.displayTurn_eq, Option.ite_none_right_eq_some, Option.some_inj] at hv
  obtain ⟨-, rfl⟩ := hv
  obtain ⟨range, vblank⟩ := State.endMode_onLine hline
  obtain ⟨rows, columns⟩ := State.endMode_framed hframe
  exact ⟨⟨range, vblank⟩, ⟨rows, columns⟩⟩

theorem State.Inv.displayStep {s : State} (h : s.Inv) (t : Nat) : (s.displayStep t).Inv := by
  cases hon : s.lcd.powered with
  | false =>
    rw [State.displayStep_off hon]
    exact h
  | true =>
    have hkept := State.displayRun_keeps_frame (s := s.setModeClock (s.lcd.modeClock + t)) ⟨h.lineRange, h.lineMode⟩
      ⟨h.frameRows, h.frameColumns⟩
    have hphase := displayLoop_exits _ (s.setModeClock (s.lcd.modeClock + t)) (displayTurns_enough _)
    have hstill := (s.displayStep_powered t).trans hon
    change (State.displayRun _).lcd.modeClock < (State.displayRun _).lcd.mode.duration at hphase
    rw [← State.displayStep_on hon] at hkept hphase
    obtain ⟨hline, hframe⟩ := hkept
    rw [s.displayStep_only t]
    exact { h with
      lineRange := hline.range
      lineMode := hline.vblank
      modePhase := hphase
      powerOff := fun hoff => absurd (hstill.symm.trans hoff) nofun
      frameRows := hframe.rows
      frameColumns := hframe.columns }

/-! ## The step -/

theorem State.Inv.afterCpu {s : State} (h : s.Inv) : s.afterCpu.Inv := by
  unfold State.afterCpu
  split
  · exact (h.timerStep _).displayStep _
  · exact h

/-- Settles O59, field by field. -/
theorem invariantHoldsAtReset : Obligations.InvariantHoldsAtReset where
  memCanonical := rfl
  memKeys := fun _ h => nomatch h
  cartCanonical := trivial
  flagsLow := rfl
  divPhase := by decide
  timaPhase := by decide
  lineRange := by decide
  lineMode := by decide
  modePhase := by decide
  powerOff := nofun
  frameRows := List.length_replicate
  frameColumns := fun _ h => List.eq_of_mem_replicate h ▸ List.length_replicate
  costBound := by decide

/-- Settles O60: a running machine's step is its CPU step (`State.Inv.cpuStep`) and then the devices' advance
(`State.Inv.timerStep`, `State.Inv.displayStep`); from the fatal state there is none. -/
theorem everyStepKeepsTheInvariant : Obligations.EveryStepKeepsTheInvariant := by
  intro s t h hstep
  cases hrun : s.run with
  | fatal k =>
    rw [step, hrun] at hstep
    cases hstep
  | running =>
    obtain ⟨u, hu⟩ := cpuStep_answers s.sampleInput
    rw [step_of_running hrun hu] at hstep
    cases hstep
    exact (h.sampleInput.cpuStep hu).afterCpu

end Sys2Proof.Machine
end

section
/-! SUPPORT. The sum laws of the timer and the display. -/

namespace Sys2Proof.Machine

/-! ## The timer's advances add up (R400, R401)

The divider and the counter share no register, and a turn of the counter does not look at its accumulator. -/

def State.setDivider (s : State) (div : Byte) (acc : Nat) : State :=
  { s with timer := { s.timer with div := div, divAcc := acc } }

def State.setTimaAcc (s : State) (acc : Nat) : State := { s with timer := { s.timer with timaAcc := acc } }

theorem turns_comm {body f : State → State} (h : ∀ s, body (f s) = f (body s)) (n : Nat) (s : State) :
    turns n body (f s) = f (turns n body s) := by
  induction n generalizing s with
  | zero => rfl
  | succ n ih => rw [turns, turns, h, ih]

theorem State.timaTick_setDivider (s : State) (div : Byte) (acc : Nat) :
    (s.setDivider div acc).timaTick = s.timaTick.setDivider div acc := by
  unfold State.timaTick State.setDivider
  split <;> rfl

theorem State.timaTick_setTimaAcc (s : State) (acc : Nat) : (s.setTimaAcc acc).timaTick = s.timaTick.setTimaAcc acc := by
  unfold State.timaTick State.setTimaAcc
  split <;> rfl

theorem turns_timaTick_tac (n : Nat) (s : State) : (turns n State.timaTick s).timer.tac = s.timer.tac :=
  turns_keeps (P := fun u => u.timer.tac = s.timer.tac) (fun u hu => by rw [u.timaTick_phase]; exact hu) n rfl

/-- R401 in closed form: a turn for each whole period, and the rest in the accumulator. -/
theorem State.advanceCounter_eq {s : State} (h : s.timer.enabled = true) (t : Nat) :
    s.advanceCounter t =
      (turns ((s.timer.timaAcc + t) / s.timer.period) State.timaTick s).setTimaAcc ((s.timer.timaAcc + t) % s.timer.period) :=
  (if_pos h).trans (turns_comm (fun u => u.timaTick_setTimaAcc _) _ s)

theorem State.advanceCounter_off {s : State} (h : s.timer.enabled = false) (t : Nat) : s.advanceCounter t = s :=
  if_neg (Bool.eq_false_iff.mp h)

theorem State.advanceCounter_setDivider (s : State) (div : Byte) (acc t : Nat) :
    (s.setDivider div acc).advanceCounter t = (s.advanceCounter t).setDivider div acc := by
  cases h : s.timer.enabled with
  | false => rw [State.advanceCounter_off h, State.advanceCounter_off (s := s.setDivider div acc) h]
  | true =>
    rw [State.advanceCounter_eq h, State.advanceCounter_eq (s := s.setDivider div acc) h,
      turns_comm fun u => u.timaTick_setDivider div acc]
    rfl

theorem State.advanceDivider_advanceCounter (s : State) (t u : Nat) :
    (s.advanceCounter t).advanceDivider u = (s.advanceDivider u).advanceCounter t := by
  obtain ⟨hdiv, hacc⟩ := s.advanceCounter_divider t
  rw [State.advanceDivider_eq, hdiv, hacc, State.advanceDivider_eq]
  exact (s.advanceCounter_setDivider _ _ t).symm

theorem div_add_div_of_mod (a u p : Nat) (hp : 0 < p) : a / p + (a % p + u) / p = (a + u) / p := by
  conv_rhs => rw [← Nat.div_add_mod a p, Nat.add_assoc, Nat.mul_add_div hp]

theorem State.advanceDivider_add (s : State) (t u : Nat) :
    (s.advanceDivider t).advanceDivider u = s.advanceDivider (t + u) := by
  simp only [State.advanceDivider_eq, Nat.mod_add_mod, ← Nat.add_assoc, BitVec.add_assoc, ← BitVec.ofNat_add,
    div_add_div_of_mod _ u 256 (by decide)]

theorem State.advanceCounter_add (s : State) (t u : Nat) :
    (s.advanceCounter t).advanceCounter u = s.advanceCounter (t + u) := by
  cases h : s.timer.enabled with
  | false => rw [State.advanceCounter_off h, State.advanceCounter_off h, State.advanceCounter_off h]
  | true =>
    have htac (n : Nat) (acc : Nat) : ((turns n State.timaTick s).setTimaAcc acc).timer.tac = s.timer.tac :=
      turns_timaTick_tac n s
    have hperiod (n : Nat) (acc : Nat) : ((turns n State.timaTick s).setTimaAcc acc).timer.period = s.timer.period := by
      rw [Timer.period, htac, Timer.period]
    have hon (n : Nat) (acc : Nat) : ((turns n State.timaTick s).setTimaAcc acc).timer.enabled = true := by
      rw [Timer.enabled, htac]
      exact h
    rw [State.advanceCounter_eq h, State.advanceCounter_eq (hon _ _), hperiod, turns_comm fun v => v.timaTick_setTimaAcc _,
      ← turns_add, State.advanceCounter_eq h]
    simp only [State.setTimaAcc, Nat.mod_add_mod, div_add_div_of_mod _ u _ s.timer.period_pos, Nat.add_assoc]

/-- Settles O50: the divider's advances add up and so do the counter's, and the one commutes with the other. -/
theorem timerStepsAddUp : Obligations.TimerStepsAddUp := by
  intro s t u
  calc (s.timerStep t).timerStep u
    _ = (((s.advanceDivider t).advanceDivider u).advanceCounter t).advanceCounter u :=
      congrArg (State.advanceCounter · u) (State.advanceDivider_advanceCounter _ t u)
    _ = s.timerStep (t + u) := by rw [State.advanceDivider_add, State.advanceCounter_add, State.timerStep]

/-! ## The display (R411, R412, R415) -/

/-- Settles O51: the loop's exit is passed by no T-cycle (`State.displayStep_add`). -/
theorem displayStepsAddUp : Obligations.DisplayStepsAddUp := State.displayStep_add

theorem State.AtModeStart.displayStep_zero {s : State} {m : Mode} {ly : Byte} (h : s.AtModeStart m ly) :
    (s.displayStep 0).AtModeStart m ly := by
  have hpos := m.duration_pos
  rw [State.displayStep_of_lt h.on (by rw [h.clock, h.mode]; omega), h.clock]
  exact ⟨h.on, h.mode, h.line, rfl⟩

/-- R411: n lines from the start of line 0, up to the last drawn one. -/
theorem State.AtModeStart.lines_end {s : State} (h : s.AtModeStart .spriteScan 0) : ∀ n < 144,
    (s.displayStep (456 * n)).AtModeStart .spriteScan (BitVec.ofNat 8 n) := by
  intro n hn
  induction n with
  | zero => exact h.displayStep_zero
  | succ n ih =>
    have hne : BitVec.ofNat 8 n + 1 ≠ 144 := by bv_omega
    have hend := (ih (by omega)).line_ends hne
    rw [State.displayStep_add] at hend
    rw [Nat.mul_succ, BitVec.ofNat_add]
    exact hend

/-- R412: a mode's whole duration from its start ends that mode. -/
theorem State.AtModeStart.displayStep_eq {s : State} {m : Mode} {ly : Byte} (h : s.AtModeStart m ly) {t : Nat}
    (ht : t = m.duration) : s.displayStep t = s.endMode.setModeClock 0 := by
  obtain ⟨on, rfl, -, clock⟩ := h
  rw [State.displayStep_of_oneEnd on (by omega) (by omega), clock, ht, Nat.zero_add, Nat.sub_self]

/-- R412, R415: the last drawn line's end enters mode 1 and requests V-Blank. -/
theorem State.AtModeStart.hblank_ends_143 {s : State} (h : s.AtModeStart .hblank 143) :
    (s.displayStep 204).AtModeStart .vblank 144 ∧ (s.displayStep 204).ints.iflag.getLsbD 0 = true := by
  obtain ⟨mode, ly, iflag⟩ := State.endHblank_leaves_144 (s := s) (by rw [h.line]; rfl)
  rw [← State.endMode_of_hblank h.mode] at mode ly iflag
  refine ⟨h.displayStep_duration mode ly, ?_⟩
  rw [h.displayStep_eq (t := 204) rfl]
  show s.endMode.ints.iflag.getLsbD 0 = true
  rw [iflag]
  simp

/-- R412: the lines of mode 1, before the last. -/
theorem State.AtModeStart.vblankLine_ends {s : State} {ly : Byte} (h : s.AtModeStart .vblank ly) (hne : ly + 1 ≠ 154) :
    (s.displayStep 456).AtModeStart .vblank (ly + 1) := by
  obtain rfl := h.line
  obtain ⟨mode, ly, -⟩ := State.endVblankLine_leaves hne
  rw [← State.endMode_of_vblank h.mode] at mode ly
  exact h.displayStep_duration (mode.trans h.mode) ly

theorem State.AtModeStart.vblankLine_ends_153 {s : State} (h : s.AtModeStart .vblank 153) :
    (s.displayStep 456).AtModeStart .spriteScan 0 := by
  obtain ⟨mode, ly, -⟩ := State.endVblankLine_leaves_154 (s := s) (by rw [h.line]; rfl)
  rw [← State.endMode_of_vblank h.mode] at mode ly
  exact h.displayStep_duration mode ly

theorem State.AtModeStart.vblankLines_end {s : State} (h : s.AtModeStart .vblank 144) : ∀ n < 10,
    (s.displayStep (456 * n)).AtModeStart .vblank (BitVec.ofNat 8 (144 + n)) := by
  intro n hn
  induction n with
  | zero => exact h.displayStep_zero
  | succ n ih =>
    have hne : BitVec.ofNat 8 (144 + n) + 1 ≠ 154 := by bv_omega
    have hend := (ih (by omega)).vblankLine_ends hne
    rw [State.displayStep_add] at hend
    rw [Nat.mul_succ, ← Nat.add_assoc, BitVec.ofNat_add]
    exact hend

/-- Settles O53: 143 lines and the modes of the last drawn one; then the ten lines of mode 1. -/
theorem frameTakes70224Cycles : Obligations.FrameTakes70224Cycles := by
  intro s on mode line clock
  have h143 : (s.displayStep (456 * 143)).AtModeStart .spriteScan 143 :=
    State.AtModeStart.lines_end ⟨on, mode, line, clock⟩ 143 (by decide)
  have h144 := h143.spriteScan_ends.pixelTransfer_ends.hblank_ends_143
  simp only [State.displayStep_add] at h144
  obtain ⟨hvblank, hrequest⟩ := h144
  have h153 := hvblank.vblankLines_end 9 (by decide)
  have hframe := h153.vblankLine_ends_153
  simp only [State.displayStep_add] at hframe
  exact ⟨⟨hvblank.line, hvblank.mode, hvblank.clock, hrequest⟩, hframe.line, hframe.mode, hframe.clock⟩

end Sys2Proof.Machine
end

section
/-! SUPPORT. The row that the end of pixel transfer draws, column by column. -/

namespace Sys2Proof.Machine

/-- R412: an advance past the end of the mode, but not past the end of the next, ends one mode. -/
theorem State.displayStep_of_nextMode {s : State} {t : Nat} (hon : s.lcd.powered = true)
    (hle : s.lcd.mode.duration ≤ s.lcd.modeClock + t)
    (hlt : s.lcd.modeClock + t < s.lcd.mode.duration + s.endMode.lcd.mode.duration) :
    s.displayStep t = s.endMode.setModeClock (s.lcd.modeClock + t - s.lcd.mode.duration) := by
  rw [State.displayStep_on hon, State.displayRun_of_le (s := s.setModeClock (s.lcd.modeClock + t)) hle,
    s.endMode_setModeClock]
  exact State.displayRun_of_lt (Nat.sub_lt_left_of_lt_add hle hlt)

/-- R412, R418: an advance over the end of pixel transfer, and not past the end of the mode 0 that follows, draws one row. -/
theorem State.displayStep_draws {s : State} {t : Nat} (hon : s.lcd.powered = true) (hmode : s.lcd.mode = .pixelTransfer)
    (hle : 172 ≤ s.lcd.modeClock + t) (hlt : s.lcd.modeClock + t < 172 + 204) :
    (s.displayStep t).lcd.fb = s.lcd.fb.set s.lcd.ly.toNat (s.renderRow s.lcd.ly.toNat) := by
  have hduration : s.lcd.mode.duration = 172 := by
    rw [hmode]
    rfl
  have hnext : s.endMode.lcd.mode.duration = 204 := by
    rw [State.endMode_of_pixelTransfer hmode, s.endPixelTransfer_leaves.1]
    rfl
  rw [State.displayStep_of_nextMode hon (by rwa [hduration]) (by rwa [hduration, hnext])]
  exact s.endMode_fb.trans (if_pos hmode)

theorem State.renderRow_length (s : State) (ly : Nat) : (s.renderRow ly).length = 160 :=
  (List.length_map _).trans List.length_range

theorem State.renderRow_getElem? (s : State) (ly : Nat) {x : Nat} (hx : x < 160) :
    (s.renderRow ly)[x]? = some (s.renderPixel ly x) := by
  rw [State.renderRow, List.getElem?_map, List.getElem?_range hx, Option.map_some]

/-- R420, R425: a column where no selected sprite puts a shade. -/
theorem State.renderPixel_under {s : State} {ly x : Nat} (h : ∀ k ∈ s.selectSprites ly, s.spriteShade ly x k = none) :
    s.renderPixel ly x = s.underShade ly x := s.drawSprites_none ly x _ _ h

/-- R418: with the background and the sprites off the row is blank. -/
theorem State.renderRow_blank {s : State} (hbg : s.lcd.lcdc.getLsbD 0 = false) (hobj : s.lcd.lcdc.getLsbD 1 = false)
    (ly : Nat) : s.renderRow ly = List.replicate 160 0 := by
  refine List.eq_replicate_iff.mpr ⟨s.renderRow_length ly, fun shade hshade => ?_⟩
  obtain ⟨x, -, rfl⟩ := List.mem_map.mp hshade
  rw [State.renderPixel_under (by rw [State.selectSprites_off hobj]; nofun)]
  apply BitVec.eq_of_toNat_eq
  rw [s.underShade_toNat, hbg]
  rfl

/-- Settles O56: the end of mode 3 draws one row (`displayStep_draws`); a column is the layer below where no selected sprite
puts a shade, and else the first one's that does (`drawSprites_first`). -/
theorem pixelTransferEndsWithTheRow : Obligations.PixelTransferEndsWithTheRow := by
  intro s t hon hmode _ hle hlt hrow ly
  rw [State.displayStep_draws hon hmode hle hlt]
  refine ⟨fun y hy => List.getElem?_set_ne hy.symm, s.renderRow ly, List.getElem?_set_self hrow, s.renderRow_length ly,
    fun hbg hobj => State.renderRow_blank hbg hobj ly, fun x hx => ⟨_, s.renderRow_getElem? ly hx, fun hnone => ?under,
      fun k v hk hv hfirst => ?sprite⟩⟩
  case under => rw [State.renderPixel_under hnone, s.underShade_toNat]
  case sprite => exact s.drawSprites_first ly x _ _ (s.selectSprites_ordered ly) hk hv hfirst

end Sys2Proof.Machine
end

section
/-! SUPPORT. Decimal addition (R226, R252) and the input latch (R105). -/

namespace Sys2Proof.Machine

/-! ## Decimal addition (R226, R252) -/

/-- The byte of two decimal digits. -/
def bcd (x : Nat) : Nat := 16 * (x / 10) + x % 10

theorem bcd_lt {x : Nat} (hx : x < 100) : bcd x < 256 := by
  unfold bcd
  omega

theorem exists_digits {x : Nat} (hx : x < 100) : ∃ a b, a < 10 ∧ b < 10 ∧ x = 10 * a + b ∧ bcd x = 16 * a + b := by
  refine ⟨x / 10, x % 10, ?_, ?_, ?_, rfl⟩ <;> omega

/-- R252: the high correction is made exactly where the decimal sum carries. -/
theorem bcd_carry_iff {x y : Nat} (hx : x < 100) (hy : y < 100) :
    (bcd x + bcd y > 0xFF ∨ (bcd x + bcd y) % 256 > 0x99) ↔ 100 ≤ x + y := by
  obtain ⟨a, b, ha, hb, hx, hbx⟩ := exists_digits hx
  obtain ⟨c, d, hc, hd, hy, hby⟩ := exists_digits hy
  rw [hbx, hby]
  omega

/-- R252: the low correction is made exactly where the low digits carry. -/
theorem bcd_halfCarry_iff (x y : Nat) :
    (bcd x % 16 + bcd y % 16 > 0x0F ∨ (bcd x + bcd y) % 256 % 16 > 9) ↔ 10 ≤ x % 10 + y % 10 := by
  unfold bcd
  omega

/-- R252: the binary sum with both corrections is the decimal sum. -/
theorem bcd_add {x y : Nat} (hx : x < 100) (hy : y < 100) :
    ((bcd x + bcd y) % 256 + ((if 100 ≤ x + y then 0x60 else 0) + (if 10 ≤ x % 10 + y % 10 then 0x06 else 0))) % 256 =
      bcd ((x + y) % 100) := by
  unfold bcd
  split <;> split <;> omega

/-- Settles O17: after the ADD (`add_completes`) DAA makes a correction exactly where a decimal digit carries. -/
theorem decimalAdjustGivesTheDecimalSum : Obligations.DecimalAdjustGivesTheDecimalSum := by
  intro i j s x y hx hy ha hi hj
  obtain ⟨t, ht, -, -, hsum, -, hn, hh, hc, -⟩ := add_completes (cin := false) (.inr (.inr ⟨hi, rfl⟩)) nofun rfl
  obtain ⟨u, hu, -, -, hout, -, -, -, hcarry, -⟩ := daa_completes hj t
  have toNat_bcd {z : Nat} (hz : z < 100) : (BitVec.ofNat 8 (16 * (z / 10) + z % 10)).toNat = bcd z :=
    (BitVec.toNat_ofNat _ 8).trans (Nat.mod_eq_of_lt (bcd_lt hz))
  rw [ha, toNat_bcd hx, toNat_bcd hy, Bool.toNat_false, Nat.add_zero] at hsum hh hc
  have high : (t.flagC || decide (t.regs.a.toNat > 0x99)) = decide (100 ≤ x + y) := by
    rw [hc, hsum, ← Bool.decide_or, decide_eq_decide]
    exact bcd_carry_iff hx hy
  have low : (t.flagH || decide (t.regs.a.toNat % 16 > 9)) = decide (10 ≤ x % 10 + y % 10) := by
    rw [hh, hsum, ← Bool.decide_or, decide_eq_decide]
    exact bcd_halfCarry_iff x y
  refine ⟨t, u, ht, hu, ?sum, ?carry⟩
  case sum =>
    rw [hout, hn, toNat_daaOut_of_addition, high, low, hsum]
    simp only [decide_eq_true_eq]
    rw [bcd_add hx hy, bcd, Nat.mod_mod_of_dvd _ (by decide)]
  case carry =>
    rw [hcarry, hn]
    exact high

/-! ## The input latch (R105) -/

theorem Buttons.toNat_directions (i : Buttons) :
    i.directions.toNat = i.right.toNat + 2 * i.left.toNat + 4 * i.up.toNat + 8 * i.down.toNat := by
  unfold Buttons.directions
  cases i.right <;> cases i.left <;> cases i.up <;> cases i.down <;> rfl

theorem Buttons.toNat_actions (i : Buttons) :
    i.actions.toNat = i.a.toNat + 2 * i.b.toNat + 4 * i.select.toNat + 8 * i.start.toNat := by
  unfold Buttons.actions
  cases i.a <;> cases i.b <;> cases i.select <;> cases i.start <;> rfl

theorem toNat_joypad_fields : ∀ (sel : BitVec 2) (pressed : BitVec 4),
    (0b11#2 ++ sel ++ ~~~pressed).toNat = 0xC0 + 16 * sel.toNat + (15 - pressed.toNat) := by
  decide

/-- Settles O40: the latch is three bit fields of one byte, and a sample takes the head of the queue. -/
theorem inputLatch : Obligations.InputLatch := by
  intro s v i directions buttons dir btn
  obtain ⟨read, write⟩ := s.access_io (a := 0xFF00) v .joyp rfl
  refine ⟨⟨_, read, ?value⟩, ?write, fun _ _ h => State.sampleInput_some h, State.sampleInput_none⟩
  case value =>
    have hdir : (if s.joypSel.getLsbD 0 then 0#4 else s.input.directions).toNat = dir := by
      rw [apply_ite BitVec.toNat, Buttons.toNat_directions]
      rfl
    have hbtn : (if s.joypSel.getLsbD 1 then 0#4 else s.input.actions).toNat = btn := by
      rw [apply_ite BitVec.toNat, Buttons.toNat_actions]
      rfl
    rw [← hdir, ← hbtn, ← BitVec.toNat_or]
    exact toNat_joypad_fields _ _
  case write =>
    rw [write, State.ioWrite, ← BitVec.setWidth_ushiftRight_eq_extractLsb]

end Sys2Proof.Machine
end
